-- ==== Sys2Proof/Word.lean ====
section
/-! DEFINITION. The byte and the byte vector (00_scope.md R8, R9). -/

namespace Sys2Proof

/-- A byte: an unsigned 8-bit value, bit 7 the most significant (R8). -/
abbrev Byte := BitVec 8

/-- A vector of `n` bytes, indexed from 0 (R9). -/
abbrev Bytes (n : Nat) := Vector Byte n

end Sys2Proof
end

