-- ==== Sys2Proof/Syntax.lean ====
section
/-! DEFINITION. The enumerations, the request ports, the words of the opcode table's formats, and `Instr`: one
constructor for each row of spec/opcode_table.json. -/

namespace Sys2Proof

/-- A frame kind (10_state.md R18, 30_encoding.md R56). -/
inductive Kind where
  | init
  | cont
deriving DecidableEq, Repr

/-- The ten protocol commands, in the order of 30_encoding.md R51. -/
inductive CommandCode where
  | invalid | ping | msg | lock | init | wink | cbor | cancel | keepalive | error
deriving DecidableEq, Repr

/-- The nine protocol errors, in the order of 30_encoding.md R52. -/
inductive ErrorCode where
  | invalidCmd | invalidPar | invalidLen | invalidSeq | msgTimeout | channelBusy | lockRequired | na | other
deriving DecidableEq, Repr

/-- What stands on the request ports when the host presents a request (10_state.md R23). -/
structure Request where
  op_i : BitVec 5
  cid_i : Bytes 4
  cmd_i : BitVec 4
  err_i : BitVec 4
  size_i : BitVec 16
  seq_i : Byte
  pay_i : Bytes 59
  plen_i : BitVec 6
  body_i : Bytes 64
  blen_i : BitVec 7
  byte_i : Byte
deriving DecidableEq, Repr

/-- The column "format" of spec/opcode_table.json. -/
inductive Format where
  | op | wire | cmdByte | errByte | faultCode | kindBit
deriving DecidableEq, Repr

/-- A word of one of the formats of 30_encoding.md R44. An operation's word is the whole request, since its operands
stand beside `op_i` (R57). A fault code carries the `info` of `raise` beside it, widened to 7 bits (60_exceptions.md
R102), and nothing else does. -/
inductive TableWord where
  | request (r : Request)
  | report (v : Bytes 65)
  | body (v : Bytes 64)
  | cmdByte (b : Byte)
  | errByte (b : Byte)
  | faultCode (code : BitVec 3) (info : BitVec 7)
  | kindBit (b : BitVec 1)
deriving DecidableEq, Repr

/-- One constructor for each row of spec/opcode_table.json. The first twenty are the operations of 30_encoding.md R58 with
the operands 10_state.md R23 names for them; then the twelve reserved operation codes (R59); then the rows of the other
formats, which are words and no operations (log entry 8). -/
inductive Instr where
  -- 41_codes.md
  | cmdEnc (cmd : BitVec 4)
  | cmdDec (byte : Byte)
  | errEnc (err : BitVec 4)
  | errDec (byte : Byte)
  -- 42_init_frame.md
  | initNew (cid : Bytes 4) (cmd : BitVec 4) (size : BitVec 16) (pay : Bytes 59) (plen : BitVec 6)
  | initFromWire (body : Bytes 64) (blen : BitVec 7)
  | initToWire
  | initCid
  | initCmd
  | initSize
  | initPayload
  -- 43_cont_frame.md
  | contNew (cid : Bytes 4) (seq : Byte) (pay : Bytes 59) (plen : BitVec 6)
  | contFromWire (body : Bytes 64) (blen : BitVec 7)
  | contToWire
  | contCid
  | contSeq
  | contPayload
  -- 44_mux_demux.md
  | classify (body : Bytes 64) (blen : BitVec 7)
  | rxDemux (body : Bytes 64) (blen : BitVec 7)
  | txMux
  -- 30_encoding.md R59
  | reserved04
  | reserved05
  | reserved06
  | reserved07
  | reserved0F
  | reserved15
  | reserved17
  | reserved1B
  | reserved1C
  | reserved1D
  | reserved1E
  | reserved1F
  -- 30_encoding.md R46, R47, R48
  | frameInit (cid : Bytes 4) (command : BitVec 7) (size : BitVec 16) (data : Bytes 57)
  | frameCont (cid : Bytes 4) (seq : BitVec 7) (data : Bytes 59)
  | bodyInit (cid : Bytes 4) (command : BitVec 7) (size : BitVec 16) (data : Bytes 57)
  | bodyCont (cid : Bytes 4) (seq : BitVec 7) (data : Bytes 59)
  -- 30_encoding.md R51
  | cmdInvalid
  | cmdPing
  | cmdMsg
  | cmdLock
  | cmdInit
  | cmdWink
  | cmdCbor
  | cmdCancel
  | cmdKeepalive
  | cmdError
  -- 30_encoding.md R52
  | errInvalidCmd
  | errInvalidPar
  | errInvalidLen
  | errInvalidSeq
  | errMsgTimeout
  | errChannelBusy
  | errLockRequired
  | errNa
  | errOther
  -- 60_exceptions.md R102, each with the `info` of its `raise`
  | faultPayloadTooLarge (plen : BitVec 6)
  | faultMalformedFrame (blen : BitVec 7)
  | faultNoFrame
  | faultKindMismatch (kind : Kind)
  | faultBadOp (op : BitVec 5)
  | faultBadTag (err : BitVec 4)
  -- 30_encoding.md R56
  | kindInit
  | kindCont
deriving DecidableEq, Repr

end Sys2Proof
end

