-- ==== Sys2Proof/Config.lean ====
section
/-! DEFINITION. The constants of the block (00_scope.md R6) and the parameters the spec leaves open (R7): an open
parameter is an opaque constant, so that nothing can be proved of its value. -/

namespace Sys2Proof.Config

/-- Bytes in the frame buffer and in a report (R6). -/
@[simp] def reportLen : Nat := 65
/-- Bytes in a received body (R6). -/
@[simp] def bodyLen : Nat := 64
/-- Offset of the reserved report-ID slot (R6). -/
@[simp] def ridOff : Nat := 0
/-- Offset of the channel id (R6). -/
@[simp] def cidOff : Nat := 1
/-- Length of the channel id (R6). -/
@[simp] def cidLen : Nat := 4
/-- Offset of the type byte (R6). -/
@[simp] def typeOff : Nat := 5
/-- Offset of BCNT in an init frame (R6). -/
@[simp] def bcntOff : Nat := 6
/-- Length of BCNT (R6). -/
@[simp] def bcntLen : Nat := 2
/-- Offset of an init frame's data region (R6). -/
@[simp] def initDataOff : Nat := 8
/-- Length of an init frame's data region (R6). -/
@[simp] def initDataLen : Nat := 57
/-- Offset of a continuation frame's data region (R6). -/
@[simp] def contDataOff : Nat := 6
/-- Length of a continuation frame's data region (R6). -/
@[simp] def contDataLen : Nat := 59
/-- The frame-marker bit of an init frame's type byte (R6). -/
@[simp] def initFlag : Byte := 0x80
/-- The complement of `initFlag` (R6). -/
@[simp] def cmdMask : Byte := 0x7F
/-- The largest sequence number that keeps bit 7 of the type byte clear, not enforced by the block (R6). -/
@[simp] def seqMax : Nat := 127
/-- Number of command codes (R6). -/
@[simp] def numCommands : Nat := 10
/-- Number of error codes (R6). -/
@[simp] def numErrors : Nat := 9

/-- The spec's identity string for models (R1). -/
def isaString : String := "FRAMER-1"

/-- ERR_DESC (R7, R71): the descriptive string of an error code. Its text is not in the source, no operation returns it,
and only that it is a function of the variant may be assumed. -/
opaque errDesc : ErrorCode → String

/-- LATENCY (R7, R128): clock cycles from a request, by its operation code, to its response. No rule depends on it. -/
opaque latency : BitVec 5 → Nat

/-- SERIALISATION (R7): how the bytes of a wide port are carried on physical wires. No rule depends on it. -/
opaque serialisation : List Byte → List Bool

/-- The bytes of `pay_i` that the written form of a request does not list: "unspecified and ignored" (R61). A free value:
the byte at each index of the port. -/
opaque unlistedByte : Nat → Byte

end Sys2Proof.Config
end

