-- ==== Sys2Proof/Machine/Operands.lean ====
section
/-! DEFINITION. Byte vectors, byte order, the code tables and the field assembly of the two frame layouts: every operand
form of the block. -/

namespace Sys2Proof.Machine

/-! ### Byte vectors (00_scope.md R9, R10) -/

/-- `V[j]`. Every use in the model has `j` below the length (R10); past it the function answers 0x00. -/
def byteAt {n : Nat} (v : Bytes n) (j : Nat) : Byte := (v[j]?).getD 0x00

/-- The vector whose byte at index `j` is `f j`. -/
def tabulate (n : Nat) (f : Nat → Byte) : Bytes n := Vector.ofFn fun i => f i.val

/-- `V[a..a+n-1]`, which is `MemRead(a, n)` when `V` is FB (R10). -/
def slice {m : Nat} (v : Bytes m) (a n : Nat) : Bytes n := tabulate n fun k => byteAt v (a + k)

/-! ### Numbers and bytes (20_memory.md R32, 45_operation_set.md R97) -/

/-- `be16(h, l)`, a 16-bit value from its high and its low byte (00_scope.md R10). -/
def be16 (h l : Byte) : BitVec 16 := (h.setWidth 16 <<< 8) ||| l.setWidth 16

/-- `v[15:8]`. -/
def highByte (v : BitVec 16) : Byte := v.extractLsb' 8 8

/-- `v[7:0]`. -/
def lowByte (v : BitVec 16) : Byte := v.extractLsb' 0 8

/-! ### The command table (30_encoding.md R51, R54) -/

/-- The wire byte of a command (R51). -/
def commandByte : CommandCode → Byte
  | .invalid => 0x00
  | .ping => 0x01
  | .msg => 0x03
  | .lock => 0x04
  | .init => 0x06
  | .wink => 0x08
  | .cbor => 0x10
  | .cancel => 0x11
  | .keepalive => 0x3B
  | .error => 0x3F

/-- The port tag of a command (R54). -/
def commandTag : CommandCode → BitVec 4
  | .invalid => 0
  | .ping => 1
  | .msg => 2
  | .lock => 3
  | .init => 4
  | .wink => 5
  | .cbor => 6
  | .cancel => 7
  | .keepalive => 8
  | .error => 9

/-- All commands, in the order of R51. -/
def allCommands : List CommandCode :=
  [.invalid, .ping, .msg, .lock, .init, .wink, .cbor, .cancel, .keepalive, .error]

/-- The command a tag names; tags 10 to 15 name none (R54). -/
def commandOfTag (t : BitVec 4) : Option CommandCode := allCommands.find? fun c => commandTag c == t

/-- The command a whole byte is the wire byte of, if any (41_codes.md R64). -/
def commandOfByte (b : Byte) : Option CommandCode := allCommands.find? fun c => commandByte c == b

/-- `CMD_BYTE(t)`, where a tag that names no variant gives 0x00 (41_codes.md R63, 90_conflicts.md C1). -/
def cmdByte (t : BitVec 4) : Byte :=
  match commandOfTag t with
  | some c => commandByte c
  | none => 0x00

/-- `CMD_OF_BYTE(b)`: the tag, Invalid for an unknown byte, and whether the byte is in the table (41_codes.md R64). -/
def cmdOfByte (b : Byte) : BitVec 4 × BitVec 1 :=
  match commandOfByte b with
  | some c => (commandTag c, 1)
  | none => (commandTag .invalid, 0)

/-! ### The error table (30_encoding.md R52, R55) -/

/-- The wire byte of an error (R52). -/
def errorByte : ErrorCode → Byte
  | .invalidCmd => 0x01
  | .invalidPar => 0x02
  | .invalidLen => 0x03
  | .invalidSeq => 0x04
  | .msgTimeout => 0x05
  | .channelBusy => 0x06
  | .lockRequired => 0x0A
  | .na => 0x0B
  | .other => 0x7F

/-- The port tag of an error (R55). -/
def errorTag : ErrorCode → BitVec 4
  | .invalidCmd => 0
  | .invalidPar => 1
  | .invalidLen => 2
  | .invalidSeq => 3
  | .msgTimeout => 4
  | .channelBusy => 5
  | .lockRequired => 6
  | .na => 7
  | .other => 8

/-- All errors, in the order of R52. -/
def allErrors : List ErrorCode :=
  [.invalidCmd, .invalidPar, .invalidLen, .invalidSeq, .msgTimeout, .channelBusy, .lockRequired, .na, .other]

/-- The error a tag names; tags 9 to 15 name none (R55). -/
def errorOfTag (t : BitVec 4) : Option ErrorCode := allErrors.find? fun e => errorTag e == t

/-- The error a byte is the wire byte of, if any: the result R66 asks a model to type. -/
def errorOfByte (b : Byte) : Option ErrorCode := allErrors.find? fun e => errorByte e == b

/-- `ERR_OF_BYTE(b)` as the ports carry it: tag 15 with found 0 for an unknown byte (41_codes.md R66). -/
def errOfByte (b : Byte) : BitVec 4 × BitVec 1 :=
  match errorOfByte b with
  | some e => (errorTag e, 1)
  | none => (15, 0)

/-! ### Operation codes (30_encoding.md R57, R59) -/

/-- Bits 4 to 3 of an operation code (R57). -/
def opGroup (op : BitVec 5) : BitVec 2 := op.extractLsb' 3 2

/-- Bits 2 to 0 of an operation code (R57). -/
def opFunction (op : BitVec 5) : BitVec 3 := op.extractLsb' 0 3

/-- The twelve codes that select no operation (R59). -/
def reservedOps : List (BitVec 5) :=
  [0x04, 0x05, 0x06, 0x07, 0x0F, 0x15, 0x17, 0x1B, 0x1C, 0x1D, 0x1E, 0x1F]

/-- Whether a code selects no operation (R59). -/
def reservedOp (op : BitVec 5) : Bool := reservedOps.contains op

/-- Request ports with every line at 0. -/
def zeroRequest : Request where
  op_i := 0
  cid_i := tabulate 4 fun _ => 0
  cmd_i := 0
  err_i := 0
  size_i := 0
  seq_i := 0
  pay_i := tabulate 59 fun _ => 0
  plen_i := 0
  body_i := tabulate 64 fun _ => 0
  blen_i := 0
  byte_i := 0

/-! ### The frame layouts (20_memory.md R28, R29, R30) -/

/-- Data byte `j` of a frame built from `plen` bytes of `pay`: zero fill past them (20_memory.md R39). -/
def dataByte (pay : Bytes 59) (plen : BitVec 6) (j : Nat) : Byte :=
  if j < plen.toNat then byteAt pay j else 0x00

/-- The 65 bytes of an init frame: RID, channel id, type byte, BCNT big-endian, data (R28). -/
def initFrame (cid : Bytes 4) (type : Byte) (size : BitVec 16) (data : Nat → Byte) : Bytes 65 :=
  tabulate 65 fun a =>
    if a = Config.ridOff then 0x00
    else if a < Config.typeOff then byteAt cid (a - Config.cidOff)
    else if a = Config.typeOff then type
    else if a = Config.bcntOff then highByte size
    else if a < Config.initDataOff then lowByte size
    else data (a - Config.initDataOff)

/-- The 65 bytes of a continuation frame: RID, channel id, sequence byte, data (R29). -/
def contFrame (cid : Bytes 4) (type : Byte) (data : Nat → Byte) : Bytes 65 :=
  tabulate 65 fun a =>
    if a = Config.ridOff then 0x00
    else if a < Config.typeOff then byteAt cid (a - Config.cidOff)
    else if a = Config.typeOff then type
    else data (a - Config.contDataOff)

/-- The frame a received body makes: FRAME byte k + 1 is BODY byte k, and the report-ID slot is 0x00 (R30). -/
def frameOfBody (body : Bytes 64) : Bytes 65 :=
  tabulate 65 fun a => if a = Config.ridOff then 0x00 else byteAt body (a - 1)

/-- BODY_OF: a report without its byte 0 (30_encoding.md R62). -/
def bodyOf (report : Bytes 65) : Bytes 64 := slice report 1 64

/-- The type byte of an init frame, `0x80 | b` (30_encoding.md R50). -/
def initTypeByte (b : Byte) : Byte := Config.initFlag ||| b

/-! ### The named fields (10_state.md R15) -/

/-- CID. -/
def cidField (fb : Bytes 65) : Bytes 4 := slice fb Config.cidOff 4

/-- TYPE. -/
def typeField (fb : Bytes 65) : Byte := byteAt fb Config.typeOff

/-- BCNT. -/
def bcntField (fb : Bytes 65) : BitVec 16 := be16 (byteAt fb Config.bcntOff) (byteAt fb (Config.bcntOff + 1))

/-- INIT_DATA. -/
def initDataField (fb : Bytes 65) : Bytes 57 := slice fb Config.initDataOff 57

/-- CONT_DATA. -/
def contDataField (fb : Bytes 65) : Bytes 59 := slice fb Config.contDataOff 59

/-- The command of a type byte: the marker bit masked off, not tested (42_init_frame.md R79). -/
def commandField (fb : Bytes 65) : BitVec 4 × BitVec 1 := cmdOfByte (typeField fb &&& Config.cmdMask)

/-- INIT_DATA on the 59-byte port `pay_o`, whose last two bytes are 0x00 (42_init_frame.md R81). -/
def initDataOnPort (fb : Bytes 65) : Bytes 59 :=
  tabulate 59 fun j => if j < Config.initDataLen then byteAt fb (Config.initDataOff + j) else 0x00

end Sys2Proof.Machine
end

