-- ==== Sys2Proof/Machine/State.lean ====
section
/-! DEFINITION. The state of one framer (10_state.md R13), its faults, its response ports (R23), and reset (R25). -/

namespace Sys2Proof.Machine

/-- The six faults the block raises, each with the `info` of its `raise` (60_exceptions.md R102). Raising one is a next
state of the machine (R113), never an end of the run. -/
inductive FrameFault where
  /-- `plen_i` exceeds the data region (R103). -/
  | payloadTooLarge (plen : BitVec 6)
  /-- `blen_i` is not 64 (R104). -/
  | malformedFrame (blen : BitVec 7)
  /-- A read was requested while VALID = 0 (R105). -/
  | noFrame
  /-- A kind-specific read was requested while KIND, the value carried, is the other kind (R106). -/
  | kindMismatch (kind : Kind)
  /-- `op_i` is reserved (R107). -/
  | badOp (op : BitVec 5)
  /-- `err_i` is 9 to 15 (R108). -/
  | badTag (err : BitVec 4)
deriving DecidableEq, Repr

/-- The response ports (10_state.md R23). A result port that the operation's rule does not name is absent: no rule gives
it a value (93_implementation_defined.md U9, log entry 5). -/
structure Response where
  ok_o : BitVec 1
  fault_o : BitVec 3
  report_o : Option (Bytes 65)
  cid_o : Option (Bytes 4)
  cmd_o : Option (BitVec 4)
  err_o : Option (BitVec 4)
  size_o : Option (BitVec 16)
  seq_o : Option Byte
  pay_o : Option (Bytes 59)
  paylen_o : Option (BitVec 6)
  byte_o : Option Byte
  found_o : Option (BitVec 1)
  alias_o : Option (BitVec 1)
  kind_o : Option (BitVec 1)
  /-- The fault with its `info`, for the model's diagnostics only: no port carries it (60_exceptions.md R113, log entry 7). -/
  info : Option FrameFault
deriving DecidableEq, Repr

/-- What the host or the integrator does to the block between two steps. -/
inductive Stimulus where
  /-- The host presents a request (00_scope.md R12). -/
  | request (r : Request)
  /-- `rst` is asserted (70_reset_and_hazards.md R117), with the request it abandons, where one was in progress. -/
  | rst (abandoned : Option Request)
deriving DecidableEq, Repr

/-- The state of one framer: the four items of 10_state.md R13, then the model's own two fields (log entries 1 and 2). -/
structure State where
  /-- FB, the frame buffer (R14). -/
  fb : Bytes 65
  /-- VALID (R17). -/
  valid : Bool
  /-- KIND (R18). -/
  kind : Kind
  /-- FSTAT (R19). -/
  fstat : BitVec 8
  /-- The model's own: what the host has still to present, the next one first. -/
  pending : List Stimulus
  /-- The model's own: the response to the last request. -/
  response : Option Response
deriving DecidableEq, Repr

/-- Reasons for which the machine stops with a fault. There are none: every fault of the spec is taken as its rule
describes and the block "remains ready and accepts the next request normally" (60_exceptions.md R113; log entry 14). Safe. -/
inductive Fault where
deriving DecidableEq, Repr

/-- Reasons for which the model refuses. -/
inductive Refusal where
  /-- Raised by an arm of `exec` whose instruction has no meaning yet, by its mnemonic; no arm does. Safe. -/
  | notModelled (mnemonic : String)
deriving DecidableEq, Repr

/-- The machine right after reset (10_state.md R25, 70_reset_and_hazards.md R117); the host has presented nothing. -/
def State.reset : State where
  fb := Vector.replicate 65 0x00
  valid := false
  kind := .init
  fstat := 0x00
  pending := []
  response := none

end Sys2Proof.Machine
end

