-- ==== Sys2Proof/Machine/Flags.lean ====
section
/-! DEFINITION. Every flag the block computes: the frame kind of a type byte, the alias flag, the fault codes and the bits
of FSTAT. -/

namespace Sys2Proof.Machine

/-- The kind bit: 0 = INIT, 1 = CONT (30_encoding.md R56). -/
def kindBit : Kind → BitVec 1
  | .init => 0
  | .cont => 1

/-- The kind a kind bit names (30_encoding.md R56). -/
def kindOfBit (b : BitVec 1) : Kind := if b = 0 then .init else .cont

/-- `KIND_OF(b)`: INIT exactly when bit 7 of the type byte is 1 (44_mux_demux.md R91). -/
def kindOf (b : Byte) : Kind := if b.getLsbD 7 then .init else .cont

/-- The kind of a received body, by body byte 4 (44_mux_demux.md R91). -/
def bodyKind (body : Bytes 64) : Kind := kindOf (byteAt body (Config.typeOff - 1))

/-- `CMD_ALIAS(t)`: 1 exactly when the tag names no variant (41_codes.md R63). -/
def cmdAlias (t : BitVec 4) : BitVec 1 :=
  match commandOfTag t with
  | some _ => 0
  | none => 1

/-- The code of a fault, on `fault_o` and as an FSTAT bit number (60_exceptions.md R102). -/
def FrameFault.code : FrameFault → BitVec 3
  | .payloadTooLarge _ => 1
  | .malformedFrame _ => 2
  | .noFrame => 3
  | .kindMismatch _ => 4
  | .badOp _ => 5
  | .badTag _ => 6

/-- FSTAT with bit `n` set and every other bit kept (10_state.md R19). -/
def fstatSet (fstat : BitVec 8) (n : Nat) : BitVec 8 := fstat ||| (1#8 <<< n)

/-- FSTAT after a command tag was encoded: bit 7, ALIAS, is set when the tag names no variant (10_state.md R19). -/
def fstatAlias (fstat : BitVec 8) (cmd : BitVec 4) : BitVec 8 :=
  if cmdAlias cmd = 1 then fstatSet fstat 7 else fstat

/-- The status output `valid_o` (10_state.md R20). -/
def State.valid_o (s : State) : BitVec 1 := if s.valid then 1 else 0

/-- The status output `kindreg_o` (10_state.md R20). -/
def State.kindreg_o (s : State) : BitVec 1 := kindBit s.kind

/-- The status output `fstat_o` (10_state.md R20). -/
def State.fstat_o (s : State) : BitVec 8 := s.fstat

end Sys2Proof.Machine
end

