-- ==== Sys2Proof/WellFormed.lean ====
section
/-! DEFINITION. Which terms of `Instr` stand for a row's word. Every operand of an operation is admitted, since the block
answers all of them (00_scope.md R12); the `info` beside a fault code is one that the fault's cause allows (60_exceptions.md
R102 to R108). -/

namespace Sys2Proof

/-- Whether a term is well formed. The four checks: `plen` above the smaller data region (R103), `blen` not 64 (R104), a
reserved operation code (R107), an error tag 9 to 15 (R108). -/
def Instr.wf : Instr → Bool
  | .faultPayloadTooLarge plen => decide (Config.initDataLen < plen.toNat)
  | .faultMalformedFrame blen => decide (blen.toNat ≠ Config.bodyLen)
  | .faultBadOp op => Machine.reservedOp op
  | .faultBadTag err => decide (Config.numErrors ≤ err.toNat)
  | .cmdEnc _ | .cmdDec _ | .errEnc _ | .errDec _ => true
  | .initNew _ _ _ _ _ | .initFromWire _ _ | .initToWire | .initCid | .initCmd | .initSize | .initPayload => true
  | .contNew _ _ _ _ | .contFromWire _ _ | .contToWire | .contCid | .contSeq | .contPayload => true
  | .classify _ _ | .rxDemux _ _ | .txMux => true
  | .reserved04 | .reserved05 | .reserved06 | .reserved07 | .reserved0F | .reserved15 => true
  | .reserved17 | .reserved1B | .reserved1C | .reserved1D | .reserved1E | .reserved1F => true
  | .frameInit _ _ _ _ | .frameCont _ _ _ | .bodyInit _ _ _ _ | .bodyCont _ _ _ => true
  | .cmdInvalid | .cmdPing | .cmdMsg | .cmdLock | .cmdInit => true
  | .cmdWink | .cmdCbor | .cmdCancel | .cmdKeepalive | .cmdError => true
  | .errInvalidCmd | .errInvalidPar | .errInvalidLen | .errInvalidSeq | .errMsgTimeout => true
  | .errChannelBusy | .errLockRequired | .errNa | .errOther => true
  | .faultNoFrame | .faultKindMismatch _ => true
  | .kindInit | .kindCont => true

end Sys2Proof
end

