-- ==== Sys2Proof/Decode.lean ====
section
/-! DEFINITION. The decoder, total on every word of every format and rejecting by name, and after it the encoder, both
written from 30_encoding.md. -/

namespace Sys2Proof

open Machine

/-- Why a word is no row's word. -/
inductive DecodeError where
  /-- A report whose byte 0 is not 0x00 (R60 (c)). -/
  | reportIdNotZero
  /-- A byte outside the command table (R60 (a)). -/
  | unknownCommandByte
  /-- A byte outside the error table (R60 (b)). -/
  | unknownErrorByte
  /-- The fault codes 0 and 7 (60_exceptions.md R102). -/
  | noSuchFault
  /-- An `info` that the fault's cause excludes (60_exceptions.md R102). -/
  | faultInfo
deriving DecidableEq, Repr

/-- The operation a request selects, with the operands its rule names; every other port is ignored (R58, R59, 10_state.md
R23). The last arm is code 0x1F: every smaller code has an arm of its own. -/
def decodeRequest (r : Request) : Instr :=
  match r.op_i.toNat with
  | 0x00 => .cmdEnc r.cmd_i
  | 0x01 => .cmdDec r.byte_i
  | 0x02 => .errEnc r.err_i
  | 0x03 => .errDec r.byte_i
  | 0x04 => .reserved04
  | 0x05 => .reserved05
  | 0x06 => .reserved06
  | 0x07 => .reserved07
  | 0x08 => .initNew r.cid_i r.cmd_i r.size_i r.pay_i r.plen_i
  | 0x09 => .initFromWire r.body_i r.blen_i
  | 0x0A => .initToWire
  | 0x0B => .initCid
  | 0x0C => .initCmd
  | 0x0D => .initSize
  | 0x0E => .initPayload
  | 0x0F => .reserved0F
  | 0x10 => .contNew r.cid_i r.seq_i r.pay_i r.plen_i
  | 0x11 => .contFromWire r.body_i r.blen_i
  | 0x12 => .contToWire
  | 0x13 => .contCid
  | 0x14 => .contSeq
  | 0x15 => .reserved15
  | 0x16 => .contPayload
  | 0x17 => .reserved17
  | 0x18 => .classify r.body_i r.blen_i
  | 0x19 => .rxDemux r.body_i r.blen_i
  | 0x1A => .txMux
  | 0x1B => .reserved1B
  | 0x1C => .reserved1C
  | 0x1D => .reserved1D
  | 0x1E => .reserved1E
  | _ => .reserved1F

/-- The row of a command byte (R51). -/
def commandRow : CommandCode → Instr
  | .invalid => .cmdInvalid
  | .ping => .cmdPing
  | .msg => .cmdMsg
  | .lock => .cmdLock
  | .init => .cmdInit
  | .wink => .cmdWink
  | .cbor => .cmdCbor
  | .cancel => .cmdCancel
  | .keepalive => .cmdKeepalive
  | .error => .cmdError

/-- The row of an error byte (R52). -/
def errorRow : ErrorCode → Instr
  | .invalidCmd => .errInvalidCmd
  | .invalidPar => .errInvalidPar
  | .invalidLen => .errInvalidLen
  | .invalidSeq => .errInvalidSeq
  | .msgTimeout => .errMsgTimeout
  | .channelBusy => .errChannelBusy
  | .lockRequired => .errLockRequired
  | .na => .errNa
  | .other => .errOther

/-- The low seven bits of a type byte (R49). -/
def lowSeven (b : Byte) : BitVec 7 := b.extractLsb' 0 7

/-- A report's row, by bit 7 of its byte 5 (R46, R47, R49). -/
def decodeReport (v : Bytes 65) : Except DecodeError Instr :=
  if byteAt v 0 ≠ 0x00 then .error .reportIdNotZero
  else match kindOf (typeField v) with
    | .init => .ok (.frameInit (cidField v) (lowSeven (typeField v)) (bcntField v) (initDataField v))
    | .cont => .ok (.frameCont (cidField v) (lowSeven (typeField v)) (contDataField v))

/-- A body's row, by bit 7 of its byte 4: the report's format less byte 0 (R48). -/
def decodeBody (b : Bytes 64) : Instr :=
  let v := frameOfBody b
  match bodyKind b with
  | .init => .bodyInit (cidField v) (lowSeven (typeField v)) (bcntField v) (initDataField v)
  | .cont => .bodyCont (cidField v) (lowSeven (typeField v)) (contDataField v)

/-- A term if it is well formed. -/
def wellFormedOnly (i : Instr) : Except DecodeError Instr := if i.wf then .ok i else .error .faultInfo

/-- A fault code's row with its `info`, which must fit the width the fault gives it (60_exceptions.md R102). -/
def decodeFault (code : BitVec 3) (info : BitVec 7) : Except DecodeError Instr :=
  match code.toNat with
  | 1 => if info.toNat < 64 then wellFormedOnly (.faultPayloadTooLarge (info.setWidth 6)) else .error .faultInfo
  | 2 => wellFormedOnly (.faultMalformedFrame info)
  | 3 => if info = 0 then .ok .faultNoFrame else .error .faultInfo
  | 4 => if info.toNat < 2 then .ok (.faultKindMismatch (kindOfBit (info.setWidth 1))) else .error .faultInfo
  | 5 => if info.toNat < 32 then wellFormedOnly (.faultBadOp (info.setWidth 5)) else .error .faultInfo
  | 6 => if info.toNat < 16 then wellFormedOnly (.faultBadTag (info.setWidth 4)) else .error .faultInfo
  | _ => .error .noSuchFault

/-- The decoder: the row a word is, or why it is none. A request is always one (R58, R59). -/
def decode : TableWord → Except DecodeError Instr
  | .request r => .ok (decodeRequest r)
  | .report v => decodeReport v
  | .body b => .ok (decodeBody b)
  | .cmdByte b =>
    match commandOfByte b with
    | some c => .ok (commandRow c)
    | none => .error .unknownCommandByte
  | .errByte b =>
    match errorOfByte b with
    | some e => .ok (errorRow e)
    | none => .error .unknownErrorByte
  | .faultCode c info => decodeFault c info
  | .kindBit b =>
    match kindOfBit b with
    | .init => .ok .kindInit
    | .cont => .ok .kindCont

/-- The encoder: the word of a row, with every port an operation does not name at 0 (R46 to R58, 60_exceptions.md R102). -/
def encode : Instr → TableWord
  | .cmdEnc cmd => .request { zeroRequest with op_i := 0x00, cmd_i := cmd }
  | .cmdDec b => .request { zeroRequest with op_i := 0x01, byte_i := b }
  | .errEnc err => .request { zeroRequest with op_i := 0x02, err_i := err }
  | .errDec b => .request { zeroRequest with op_i := 0x03, byte_i := b }
  | .initNew cid cmd size pay plen =>
    .request { zeroRequest with op_i := 0x08, cid_i := cid, cmd_i := cmd, size_i := size, pay_i := pay, plen_i := plen }
  | .initFromWire body blen => .request { zeroRequest with op_i := 0x09, body_i := body, blen_i := blen }
  | .initToWire => .request { zeroRequest with op_i := 0x0A }
  | .initCid => .request { zeroRequest with op_i := 0x0B }
  | .initCmd => .request { zeroRequest with op_i := 0x0C }
  | .initSize => .request { zeroRequest with op_i := 0x0D }
  | .initPayload => .request { zeroRequest with op_i := 0x0E }
  | .contNew cid seq pay plen =>
    .request { zeroRequest with op_i := 0x10, cid_i := cid, seq_i := seq, pay_i := pay, plen_i := plen }
  | .contFromWire body blen => .request { zeroRequest with op_i := 0x11, body_i := body, blen_i := blen }
  | .contToWire => .request { zeroRequest with op_i := 0x12 }
  | .contCid => .request { zeroRequest with op_i := 0x13 }
  | .contSeq => .request { zeroRequest with op_i := 0x14 }
  | .contPayload => .request { zeroRequest with op_i := 0x16 }
  | .classify body blen => .request { zeroRequest with op_i := 0x18, body_i := body, blen_i := blen }
  | .rxDemux body blen => .request { zeroRequest with op_i := 0x19, body_i := body, blen_i := blen }
  | .txMux => .request { zeroRequest with op_i := 0x1A }
  | .reserved04 => .request { zeroRequest with op_i := 0x04 }
  | .reserved05 => .request { zeroRequest with op_i := 0x05 }
  | .reserved06 => .request { zeroRequest with op_i := 0x06 }
  | .reserved07 => .request { zeroRequest with op_i := 0x07 }
  | .reserved0F => .request { zeroRequest with op_i := 0x0F }
  | .reserved15 => .request { zeroRequest with op_i := 0x15 }
  | .reserved17 => .request { zeroRequest with op_i := 0x17 }
  | .reserved1B => .request { zeroRequest with op_i := 0x1B }
  | .reserved1C => .request { zeroRequest with op_i := 0x1C }
  | .reserved1D => .request { zeroRequest with op_i := 0x1D }
  | .reserved1E => .request { zeroRequest with op_i := 0x1E }
  | .reserved1F => .request { zeroRequest with op_i := 0x1F }
  | .frameInit cid command size data => .report (initFrame cid (initTypeByte (command.setWidth 8)) size (byteAt data))
  | .frameCont cid seq data => .report (contFrame cid (seq.setWidth 8) (byteAt data))
  | .bodyInit cid command size data =>
    .body (bodyOf (initFrame cid (initTypeByte (command.setWidth 8)) size (byteAt data)))
  | .bodyCont cid seq data => .body (bodyOf (contFrame cid (seq.setWidth 8) (byteAt data)))
  | .cmdInvalid => .cmdByte (commandByte .invalid)
  | .cmdPing => .cmdByte (commandByte .ping)
  | .cmdMsg => .cmdByte (commandByte .msg)
  | .cmdLock => .cmdByte (commandByte .lock)
  | .cmdInit => .cmdByte (commandByte .init)
  | .cmdWink => .cmdByte (commandByte .wink)
  | .cmdCbor => .cmdByte (commandByte .cbor)
  | .cmdCancel => .cmdByte (commandByte .cancel)
  | .cmdKeepalive => .cmdByte (commandByte .keepalive)
  | .cmdError => .cmdByte (commandByte .error)
  | .errInvalidCmd => .errByte (errorByte .invalidCmd)
  | .errInvalidPar => .errByte (errorByte .invalidPar)
  | .errInvalidLen => .errByte (errorByte .invalidLen)
  | .errInvalidSeq => .errByte (errorByte .invalidSeq)
  | .errMsgTimeout => .errByte (errorByte .msgTimeout)
  | .errChannelBusy => .errByte (errorByte .channelBusy)
  | .errLockRequired => .errByte (errorByte .lockRequired)
  | .errNa => .errByte (errorByte .na)
  | .errOther => .errByte (errorByte .other)
  | .faultPayloadTooLarge plen => .faultCode 1 (plen.setWidth 7)
  | .faultMalformedFrame blen => .faultCode 2 blen
  | .faultNoFrame => .faultCode 3 0
  | .faultKindMismatch kind => .faultCode 4 ((kindBit kind).setWidth 7)
  | .faultBadOp op => .faultCode 5 (op.setWidth 7)
  | .faultBadTag err => .faultCode 6 (err.setWidth 7)
  | .kindInit => .kindBit (kindBit .init)
  | .kindCont => .kindBit (kindBit .cont)

/-- The format of a word. -/
def TableWord.format : TableWord → Format
  | .request _ => .op
  | .report _ | .body _ => .wire
  | .cmdByte _ => .cmdByte
  | .errByte _ => .errByte
  | .faultCode _ _ => .faultCode
  | .kindBit _ => .kindBit

/-! ### Words as the opcode table numbers them

The table's formats share their words: 0x01 is CMD_DEC, CMD_PING, ERR_INVALIDCMD, FAULT_PAYLOADTOOLARGE and KIND_CONT. A
number and a width tell only some of them apart (log entry 13): 520 and 512 bits are a report and a body, byte 0 the most
significant (00_scope.md R9); one byte below 0x20 is an operation code with every operand port at 0; any other byte is a
command byte where it is one, and else an error byte. -/

/-- `n` bytes of a number, the first byte the most significant (00_scope.md R9). -/
def bytesOfNumber (n w : Nat) : Bytes n := tabulate n fun k => BitVec.ofNat 8 (w >>> (8 * (n - 1 - k)))

/-- The word of the opcode table that a number of `nbits` bits stands for. -/
def wordOfTable (nbits w : Nat) : TableWord :=
  if nbits = 520 then .report (bytesOfNumber 65 w)
  else if nbits = 512 then .body (bytesOfNumber 64 w)
  else
    let b := BitVec.ofNat 8 w
    if b.toNat < 32 then .request { zeroRequest with op_i := b.setWidth 5 }
    else if (commandOfByte b).isSome then .cmdByte b
    else .errByte b

/-- The instruction the decoder reads from a number of `nbits` bits. -/
def decodeTableWord (nbits w : Nat) : Option Instr :=
  match decode (wordOfTable nbits w) with
  | .ok i => some i
  | .error _ => none

/-- The request that presents a word to the block: a byte to the decoder of its table, a body to RX_DEMUX with 64 bytes, a
report to RX_DEMUX with 65 (70_reset_and_hazards.md R123). Fault codes and kind bits stand on response ports only, and no
request presents one. -/
def requestPresenting : TableWord → Option Request
  | .request r => some r
  | .report v => some { zeroRequest with op_i := 0x19, body_i := slice v 0 64, blen_i := 65 }
  | .body b => some { zeroRequest with op_i := 0x19, body_i := b, blen_i := 64 }
  | .cmdByte b => some { zeroRequest with op_i := 0x01, byte_i := b }
  | .errByte b => some { zeroRequest with op_i := 0x03, byte_i := b }
  | .faultCode _ _ => none
  | .kindBit _ => none

end Sys2Proof
end

