-- ==== Sys2Proof/Machine/Ops.lean ====
section
/-! DEFINITION. The operations every meaning is made of: responding, raising a fault, loading FB, the check before a read,
the read, and the reset transition. -/

namespace Sys2Proof.Machine

/-! ### Responses (10_state.md R23) -/

/-- `ok_o = 1`, `fault_o = 0`, and no result (R23, 60_exceptions.md R102). -/
def okResponse : Response where
  ok_o := 1
  fault_o := 0
  report_o := none
  cid_o := none
  cmd_o := none
  err_o := none
  size_o := none
  seq_o := none
  pay_o := none
  paylen_o := none
  byte_o := none
  found_o := none
  alias_o := none
  kind_o := none
  info := none

/-- `ok_o = 0`, `fault_o` the fault's code, and no other port (60_exceptions.md R113). -/
def faultResponse (f : FrameFault) : Response :=
  { okResponse with ok_o := 0, fault_o := f.code, info := some f }

/-- The state with a response returned to the host. -/
def State.respond (s : State) (r : Response) : State := { s with response := some r }

/-! ### Faults

The spec's exception is `raise`. There is no return from it: "there is no trap handler", and handling a fault is the host's
reading of the response (60_exceptions.md R114). -/

/-- The state after `raise f`: FB, VALID and KIND kept, bit `code(f)` of FSTAT set, the fault returned (R113). -/
def State.afterRaise (s : State) (f : FrameFault) : State :=
  { s with fstat := fstatSet s.fstat f.code.toNat, response := some (faultResponse f) }

/-- `raise f` (60_exceptions.md R113). -/
def raise (f : FrameFault) (s : State) : Host.Outcome State Fault Refusal := .next (s.afterRaise f)

/-! ### Loads (10_state.md R24, 45_operation_set.md R99) -/

/-- The state with all 65 bytes of FB written, VALID set and KIND written (R24). -/
def State.load (s : State) (kind : Kind) (frame : Bytes 65) : State :=
  { s with fb := frame, valid := true, kind := kind }

/-- The state with ALIAS set in FSTAT if the command tag names no variant (41_codes.md R67, 42_init_frame.md R75). -/
def State.noteAlias (s : State) (cmd : BitVec 4) : State := { s with fstat := fstatAlias s.fstat cmd }

/-- Building a frame from `plen` payload bytes: a payload longer than the data region raises PayloadTooLarge before any
write (60_exceptions.md R103), and otherwise the state is the one with the frame built. -/
def buildFrame (limit : Nat) (plen : BitVec 6) (built : State) (s : State) : Host.Outcome State Fault Refusal :=
  if limit < plen.toNat then raise (.payloadTooLarge plen) s else .next built

/-- Loading a body: a length other than 64 raises MalformedFrame before any write (60_exceptions.md R104), and otherwise
the body becomes the frame, whatever its bytes are (42_init_frame.md R73). -/
def loadBody (kind : Kind) (body : Bytes 64) (blen : BitVec 7) (answer : Response) (s : State) :
    Host.Outcome State Fault Refusal :=
  if blen.toNat = Config.bodyLen then .next ((s.load kind (frameOfBody body)).respond answer)
  else raise (.malformedFrame blen) s

/-- RX_DEMUX of what the transport delivered (44_mux_demux.md R93). -/
def demuxBody (body : Bytes 64) (blen : BitVec 7) (s : State) : Host.Outcome State Fault Refusal :=
  loadBody (bodyKind body) body blen { okResponse with kind_o := some (kindBit (bodyKind body)) } s

/-- A report presented where a body is expected, all 65 bytes of it: the port carries its first 64 and the length 65
(70_reset_and_hazards.md R123). -/
def presentReport (report : Bytes 65) (s : State) : Host.Outcome State Fault Refusal :=
  demuxBody (slice report 0 64) 65 s

/-! ### Reads (42_init_frame.md R74) -/

/-- `REQUIRE_FRAME(want)`, with `none` for "any": the fault to raise, VALID tested before KIND (R74, 60_exceptions.md
R112). -/
def frameCheck (want : Option Kind) (s : State) : Option FrameFault :=
  if s.valid then
    match want with
    | none => none
    | some k => if s.kind = k then none else some (.kindMismatch s.kind)
  else some .noFrame

/-- A read of FB: `REQUIRE_FRAME`, then the response, and no state written (20_memory.md R38). -/
def readFrame (want : Option Kind) (answer : State → Response) (s : State) : Host.Outcome State Fault Refusal :=
  match frameCheck want s with
  | some f => raise f s
  | none => .next (s.respond (answer s))

/-! ### Code lookups (41_codes.md) -/

/-- The answer to a command byte (41_codes.md R68). -/
def answerCommandByte (b : Byte) (s : State) : Host.Outcome State Fault Refusal :=
  .next (s.respond { okResponse with cmd_o := some (cmdOfByte b).1, found_o := some (cmdOfByte b).2 })

/-- The answer to an error byte (41_codes.md R70). -/
def answerErrorByte (b : Byte) (s : State) : Host.Outcome State Fault Refusal :=
  .next (s.respond { okResponse with err_o := some (errOfByte b).1, found_o := some (errOfByte b).2 })

/-- The answer that names a frame kind (44_mux_demux.md R92). -/
def answerKind (k : Kind) (s : State) : Host.Outcome State Fault Refusal :=
  .next (s.respond { okResponse with kind_o := some (kindBit k) })

/-! ### Reset (70_reset_and_hazards.md R117) -/

/-- The state after `rst`: the reset values, no response, and what the host has still to present kept, since that list is
the host's and not the block's. -/
def State.afterReset (rest : List Stimulus) : State := { State.reset with pending := rest }

end Sys2Proof.Machine
end

