-- ==== Sys2Proof/Machine/Codes.lean ====
section
/-! DEFINITION. The meanings of the code operations (41_codes.md). -/

namespace Sys2Proof.Machine

/-- CMD_ENC (41_codes.md R67). -/
def execCmdEnc (cmd : BitVec 4) (s : State) : Host.Outcome State Fault Refusal :=
  .next ((s.noteAlias cmd).respond { okResponse with byte_o := some (cmdByte cmd), alias_o := some (cmdAlias cmd) })

/-- CMD_DEC (41_codes.md R68). -/
def execCmdDec (byte : Byte) (s : State) : Host.Outcome State Fault Refusal := answerCommandByte byte s

/-- ERR_ENC (41_codes.md R69). -/
def execErrEnc (err : BitVec 4) (s : State) : Host.Outcome State Fault Refusal :=
  match errorOfTag err with
  | some e => .next (s.respond { okResponse with byte_o := some (errorByte e) })
  | none => raise (.badTag err) s

/-- ERR_DEC (41_codes.md R70). -/
def execErrDec (byte : Byte) (s : State) : Host.Outcome State Fault Refusal := answerErrorByte byte s

end Sys2Proof.Machine
end

