-- ==== Sys2Proof/Machine/ContFrame.lean ====
section
/-! DEFINITION. The meanings of the continuation frame operations (43_cont_frame.md). -/

namespace Sys2Proof.Machine

/-- CONT_NEW (43_cont_frame.md R83): all eight bits of `seq` are stored, unchecked. -/
def execContNew (cid : Bytes 4) (seq : Byte) (pay : Bytes 59) (plen : BitVec 6) (s : State) :
    Host.Outcome State Fault Refusal :=
  buildFrame Config.contDataLen plen ((s.load .cont (contFrame cid seq (dataByte pay plen))).respond okResponse) s

/-- CONT_FROM_WIRE (43_cont_frame.md R84). -/
def execContFromWire (body : Bytes 64) (blen : BitVec 7) (s : State) : Host.Outcome State Fault Refusal :=
  loadBody .cont body blen okResponse s

/-- CONT_TO_WIRE (43_cont_frame.md R85). -/
def execContToWire (s : State) : Host.Outcome State Fault Refusal :=
  readFrame (some .cont) (fun s => { okResponse with report_o := some s.fb }) s

/-- CONT_CID (43_cont_frame.md R86). -/
def execContCid (s : State) : Host.Outcome State Fault Refusal :=
  readFrame (some .cont) (fun s => { okResponse with cid_o := some (cidField s.fb) }) s

/-- CONT_SEQ (43_cont_frame.md R87): the type byte raw. -/
def execContSeq (s : State) : Host.Outcome State Fault Refusal :=
  readFrame (some .cont) (fun s => { okResponse with seq_o := some (typeField s.fb) }) s

/-- CONT_PAYLOAD (43_cont_frame.md R88). -/
def execContPayload (s : State) : Host.Outcome State Fault Refusal :=
  readFrame (some .cont) (fun s => { okResponse with pay_o := some (contDataField s.fb), paylen_o := some 59 }) s

end Sys2Proof.Machine
end

