-- ==== Sys2Proof/Machine/DataWords.lean ====
section
/-! DEFINITION. The meanings of the opcode table's rows that are words of a data format and no operations (log entries 8 to
11). A word the host can present means what the block answers to the request that presents it; a word that stands on
response ports only means the response that carries it. -/

namespace Sys2Proof.Machine

/-! ### Wire formats (30_encoding.md R46, R47, R48) -/

/-- FRAME_INIT: a report presented to the block, all 65 bytes (70_reset_and_hazards.md R123). -/
def execFrameInit (cid : Bytes 4) (command : BitVec 7) (size : BitVec 16) (data : Bytes 57) (s : State) :
    Host.Outcome State Fault Refusal :=
  presentReport (initFrame cid (initTypeByte (command.setWidth 8)) size (byteAt data)) s

/-- FRAME_CONT: a report presented to the block, all 65 bytes (70_reset_and_hazards.md R123). -/
def execFrameCont (cid : Bytes 4) (seq : BitVec 7) (data : Bytes 59) (s : State) : Host.Outcome State Fault Refusal :=
  presentReport (contFrame cid (seq.setWidth 8) (byteAt data)) s

/-- BODY_INIT: a received body whose type byte says INIT (44_mux_demux.md R93). -/
def execBodyInit (cid : Bytes 4) (command : BitVec 7) (size : BitVec 16) (data : Bytes 57) (s : State) :
    Host.Outcome State Fault Refusal :=
  demuxBody (bodyOf (initFrame cid (initTypeByte (command.setWidth 8)) size (byteAt data))) 64 s

/-- BODY_CONT: a received body whose type byte says CONT (44_mux_demux.md R93). -/
def execBodyCont (cid : Bytes 4) (seq : BitVec 7) (data : Bytes 59) (s : State) : Host.Outcome State Fault Refusal :=
  demuxBody (bodyOf (contFrame cid (seq.setWidth 8) (byteAt data))) 64 s

/-! ### Command bytes (30_encoding.md R51, 41_codes.md R64) -/

/-- CMD_INVALID: the byte presented as a command byte. -/
def execCmdInvalid (s : State) : Host.Outcome State Fault Refusal := answerCommandByte (commandByte .invalid) s

/-- CMD_PING: the byte presented as a command byte. -/
def execCmdPing (s : State) : Host.Outcome State Fault Refusal := answerCommandByte (commandByte .ping) s

/-- CMD_MSG: the byte presented as a command byte. -/
def execCmdMsg (s : State) : Host.Outcome State Fault Refusal := answerCommandByte (commandByte .msg) s

/-- CMD_LOCK: the byte presented as a command byte. -/
def execCmdLock (s : State) : Host.Outcome State Fault Refusal := answerCommandByte (commandByte .lock) s

/-- CMD_INIT: the byte presented as a command byte. -/
def execCmdInit (s : State) : Host.Outcome State Fault Refusal := answerCommandByte (commandByte .init) s

/-- CMD_WINK: the byte presented as a command byte. -/
def execCmdWink (s : State) : Host.Outcome State Fault Refusal := answerCommandByte (commandByte .wink) s

/-- CMD_CBOR: the byte presented as a command byte. -/
def execCmdCbor (s : State) : Host.Outcome State Fault Refusal := answerCommandByte (commandByte .cbor) s

/-- CMD_CANCEL: the byte presented as a command byte. -/
def execCmdCancel (s : State) : Host.Outcome State Fault Refusal := answerCommandByte (commandByte .cancel) s

/-- CMD_KEEPALIVE: the byte presented as a command byte. -/
def execCmdKeepalive (s : State) : Host.Outcome State Fault Refusal := answerCommandByte (commandByte .keepalive) s

/-- CMD_ERROR: the byte presented as a command byte. -/
def execCmdError (s : State) : Host.Outcome State Fault Refusal := answerCommandByte (commandByte .error) s

/-! ### Error bytes (30_encoding.md R52, 41_codes.md R66) -/

/-- ERR_INVALIDCMD: the byte presented as an error byte. -/
def execErrInvalidCmd (s : State) : Host.Outcome State Fault Refusal := answerErrorByte (errorByte .invalidCmd) s

/-- ERR_INVALIDPAR: the byte presented as an error byte. -/
def execErrInvalidPar (s : State) : Host.Outcome State Fault Refusal := answerErrorByte (errorByte .invalidPar) s

/-- ERR_INVALIDLEN: the byte presented as an error byte. -/
def execErrInvalidLen (s : State) : Host.Outcome State Fault Refusal := answerErrorByte (errorByte .invalidLen) s

/-- ERR_INVALIDSEQ: the byte presented as an error byte. -/
def execErrInvalidSeq (s : State) : Host.Outcome State Fault Refusal := answerErrorByte (errorByte .invalidSeq) s

/-- ERR_MSGTIMEOUT: the byte presented as an error byte. -/
def execErrMsgTimeout (s : State) : Host.Outcome State Fault Refusal := answerErrorByte (errorByte .msgTimeout) s

/-- ERR_CHANNELBUSY: the byte presented as an error byte. -/
def execErrChannelBusy (s : State) : Host.Outcome State Fault Refusal := answerErrorByte (errorByte .channelBusy) s

/-- ERR_LOCKREQUIRED: the byte presented as an error byte. -/
def execErrLockRequired (s : State) : Host.Outcome State Fault Refusal := answerErrorByte (errorByte .lockRequired) s

/-- ERR_NA: the byte presented as an error byte. -/
def execErrNa (s : State) : Host.Outcome State Fault Refusal := answerErrorByte (errorByte .na) s

/-- ERR_OTHER: the byte presented as an error byte. -/
def execErrOther (s : State) : Host.Outcome State Fault Refusal := answerErrorByte (errorByte .other) s

/-! ### Fault codes (60_exceptions.md R102, R113) -/

/-- FAULT_PAYLOADTOOLARGE: the fault is raised (R103, R113). -/
def execFaultPayloadTooLarge (plen : BitVec 6) (s : State) : Host.Outcome State Fault Refusal :=
  raise (.payloadTooLarge plen) s

/-- FAULT_MALFORMEDFRAME: the fault is raised (R104, R113). -/
def execFaultMalformedFrame (blen : BitVec 7) (s : State) : Host.Outcome State Fault Refusal :=
  raise (.malformedFrame blen) s

/-- FAULT_NOFRAME: the fault is raised (R105, R113). -/
def execFaultNoFrame (s : State) : Host.Outcome State Fault Refusal := raise .noFrame s

/-- FAULT_KINDMISMATCH: the fault is raised (R106, R113). -/
def execFaultKindMismatch (kind : Kind) (s : State) : Host.Outcome State Fault Refusal := raise (.kindMismatch kind) s

/-- FAULT_BADOP: the fault is raised (R107, R113). -/
def execFaultBadOp (op : BitVec 5) (s : State) : Host.Outcome State Fault Refusal := raise (.badOp op) s

/-- FAULT_BADTAG: the fault is raised (R108, R113). -/
def execFaultBadTag (err : BitVec 4) (s : State) : Host.Outcome State Fault Refusal := raise (.badTag err) s

/-! ### Kind bits (30_encoding.md R56, 44_mux_demux.md R92) -/

/-- KIND_INIT: the answer that names an init frame. -/
def execKindInit (s : State) : Host.Outcome State Fault Refusal := answerKind .init s

/-- KIND_CONT: the answer that names a continuation frame. -/
def execKindCont (s : State) : Host.Outcome State Fault Refusal := answerKind .cont s

end Sys2Proof.Machine
end

