-- ==== Sys2Proof/Machine/InitFrame.lean ====
section
/-! DEFINITION. The meanings of the init frame operations (42_init_frame.md). -/

namespace Sys2Proof.Machine

/-- INIT_NEW (42_init_frame.md R75). ALIAS is noted only where the frame is built. -/
def execInitNew (cid : Bytes 4) (cmd : BitVec 4) (size : BitVec 16) (pay : Bytes 59) (plen : BitVec 6) (s : State) :
    Host.Outcome State Fault Refusal :=
  buildFrame Config.initDataLen plen
    (((s.noteAlias cmd).load .init (initFrame cid (initTypeByte (cmdByte cmd)) size (dataByte pay plen))).respond
      { okResponse with alias_o := some (cmdAlias cmd) }) s

/-- INIT_FROM_WIRE (42_init_frame.md R76). -/
def execInitFromWire (body : Bytes 64) (blen : BitVec 7) (s : State) : Host.Outcome State Fault Refusal :=
  loadBody .init body blen okResponse s

/-- INIT_TO_WIRE (42_init_frame.md R77). -/
def execInitToWire (s : State) : Host.Outcome State Fault Refusal :=
  readFrame (some .init) (fun s => { okResponse with report_o := some s.fb }) s

/-- INIT_CID (42_init_frame.md R78). -/
def execInitCid (s : State) : Host.Outcome State Fault Refusal :=
  readFrame (some .init) (fun s => { okResponse with cid_o := some (cidField s.fb) }) s

/-- INIT_CMD (42_init_frame.md R79). -/
def execInitCmd (s : State) : Host.Outcome State Fault Refusal :=
  readFrame (some .init)
    (fun s => { okResponse with cmd_o := some (commandField s.fb).1, found_o := some (commandField s.fb).2 }) s

/-- INIT_SIZE (42_init_frame.md R80). -/
def execInitSize (s : State) : Host.Outcome State Fault Refusal :=
  readFrame (some .init) (fun s => { okResponse with size_o := some (bcntField s.fb) }) s

/-- INIT_PAYLOAD (42_init_frame.md R81). -/
def execInitPayload (s : State) : Host.Outcome State Fault Refusal :=
  readFrame (some .init) (fun s => { okResponse with pay_o := some (initDataOnPort s.fb), paylen_o := some 57 }) s

end Sys2Proof.Machine
end

