-- ==== Sys2Proof/Machine/MuxDemux.lean ====
section
/-! DEFINITION. The meanings of the frame-kind multiplexer and demultiplexer (44_mux_demux.md). -/

namespace Sys2Proof.Machine

/-- CLASSIFY (44_mux_demux.md R92): nothing is loaded. -/
def execClassify (body : Bytes 64) (blen : BitVec 7) (s : State) : Host.Outcome State Fault Refusal :=
  if blen.toNat = Config.bodyLen then answerKind (bodyKind body) s else raise (.malformedFrame blen) s

/-- RX_DEMUX (44_mux_demux.md R93). -/
def execRxDemux (body : Bytes 64) (blen : BitVec 7) (s : State) : Host.Outcome State Fault Refusal :=
  demuxBody body blen s

/-- TX_MUX (44_mux_demux.md R94): either kind is emitted, and `kind_o` is the KIND register. -/
def execTxMux (s : State) : Host.Outcome State Fault Refusal :=
  readFrame none (fun s => { okResponse with report_o := some s.fb, kind_o := some (kindBit s.kind) }) s

end Sys2Proof.Machine
end

