-- ==== Sys2Proof/Machine/Reserved.lean ====
section
/-! DEFINITION. The meanings of the twelve reserved operation codes (30_encoding.md R59): each raises BadOp, and no operand
is examined (60_exceptions.md R107). -/

namespace Sys2Proof.Machine

/-- `op_i` = 0x04 (30_encoding.md R59). -/
def execReserved04 (s : State) : Host.Outcome State Fault Refusal := raise (.badOp 0x04) s

/-- `op_i` = 0x05 (30_encoding.md R59). -/
def execReserved05 (s : State) : Host.Outcome State Fault Refusal := raise (.badOp 0x05) s

/-- `op_i` = 0x06 (30_encoding.md R59). -/
def execReserved06 (s : State) : Host.Outcome State Fault Refusal := raise (.badOp 0x06) s

/-- `op_i` = 0x07 (30_encoding.md R59). -/
def execReserved07 (s : State) : Host.Outcome State Fault Refusal := raise (.badOp 0x07) s

/-- `op_i` = 0x0F (30_encoding.md R59). -/
def execReserved0F (s : State) : Host.Outcome State Fault Refusal := raise (.badOp 0x0F) s

/-- `op_i` = 0x15 (30_encoding.md R59). -/
def execReserved15 (s : State) : Host.Outcome State Fault Refusal := raise (.badOp 0x15) s

/-- `op_i` = 0x17 (30_encoding.md R59). -/
def execReserved17 (s : State) : Host.Outcome State Fault Refusal := raise (.badOp 0x17) s

/-- `op_i` = 0x1B (30_encoding.md R59). -/
def execReserved1B (s : State) : Host.Outcome State Fault Refusal := raise (.badOp 0x1B) s

/-- `op_i` = 0x1C (30_encoding.md R59). -/
def execReserved1C (s : State) : Host.Outcome State Fault Refusal := raise (.badOp 0x1C) s

/-- `op_i` = 0x1D (30_encoding.md R59). -/
def execReserved1D (s : State) : Host.Outcome State Fault Refusal := raise (.badOp 0x1D) s

/-- `op_i` = 0x1E (30_encoding.md R59). -/
def execReserved1E (s : State) : Host.Outcome State Fault Refusal := raise (.badOp 0x1E) s

/-- `op_i` = 0x1F (30_encoding.md R59). -/
def execReserved1F (s : State) : Host.Outcome State Fault Refusal := raise (.badOp 0x1F) s

end Sys2Proof.Machine
end

