-- ==== Sys2Proof/Machine/Dispatch.lean ====
section
/-! DEFINITION. One arm per constructor of Instr. -/

namespace Sys2Proof.Machine

def exec (i : Instr) (s : State) : Host.Outcome State Fault Refusal :=
  match i with
  | .cmdEnc cmd => Sys2Proof.Machine.execCmdEnc cmd s
  | .cmdDec byte => Sys2Proof.Machine.execCmdDec byte s
  | .errEnc err => Sys2Proof.Machine.execErrEnc err s
  | .errDec byte => Sys2Proof.Machine.execErrDec byte s
  | .initNew cid cmd size pay plen => Sys2Proof.Machine.execInitNew cid cmd size pay plen s
  | .initFromWire body blen => Sys2Proof.Machine.execInitFromWire body blen s
  | .initToWire => Sys2Proof.Machine.execInitToWire s
  | .initCid => Sys2Proof.Machine.execInitCid s
  | .initCmd => Sys2Proof.Machine.execInitCmd s
  | .initSize => Sys2Proof.Machine.execInitSize s
  | .initPayload => Sys2Proof.Machine.execInitPayload s
  | .contNew cid seq pay plen => Sys2Proof.Machine.execContNew cid seq pay plen s
  | .contFromWire body blen => Sys2Proof.Machine.execContFromWire body blen s
  | .contToWire => Sys2Proof.Machine.execContToWire s
  | .contCid => Sys2Proof.Machine.execContCid s
  | .contSeq => Sys2Proof.Machine.execContSeq s
  | .contPayload => Sys2Proof.Machine.execContPayload s
  | .classify body blen => Sys2Proof.Machine.execClassify body blen s
  | .rxDemux body blen => Sys2Proof.Machine.execRxDemux body blen s
  | .txMux => Sys2Proof.Machine.execTxMux s
  | .reserved04 => Sys2Proof.Machine.execReserved04 s
  | .reserved05 => Sys2Proof.Machine.execReserved05 s
  | .reserved06 => Sys2Proof.Machine.execReserved06 s
  | .reserved07 => Sys2Proof.Machine.execReserved07 s
  | .reserved0F => Sys2Proof.Machine.execReserved0F s
  | .reserved15 => Sys2Proof.Machine.execReserved15 s
  | .reserved17 => Sys2Proof.Machine.execReserved17 s
  | .reserved1B => Sys2Proof.Machine.execReserved1B s
  | .reserved1C => Sys2Proof.Machine.execReserved1C s
  | .reserved1D => Sys2Proof.Machine.execReserved1D s
  | .reserved1E => Sys2Proof.Machine.execReserved1E s
  | .reserved1F => Sys2Proof.Machine.execReserved1F s
  | .frameInit cid command size data => Sys2Proof.Machine.execFrameInit cid command size data s
  | .frameCont cid seq data => Sys2Proof.Machine.execFrameCont cid seq data s
  | .bodyInit cid command size data => Sys2Proof.Machine.execBodyInit cid command size data s
  | .bodyCont cid seq data => Sys2Proof.Machine.execBodyCont cid seq data s
  | .cmdInvalid => Sys2Proof.Machine.execCmdInvalid s
  | .cmdPing => Sys2Proof.Machine.execCmdPing s
  | .cmdMsg => Sys2Proof.Machine.execCmdMsg s
  | .cmdLock => Sys2Proof.Machine.execCmdLock s
  | .cmdInit => Sys2Proof.Machine.execCmdInit s
  | .cmdWink => Sys2Proof.Machine.execCmdWink s
  | .cmdCbor => Sys2Proof.Machine.execCmdCbor s
  | .cmdCancel => Sys2Proof.Machine.execCmdCancel s
  | .cmdKeepalive => Sys2Proof.Machine.execCmdKeepalive s
  | .cmdError => Sys2Proof.Machine.execCmdError s
  | .errInvalidCmd => Sys2Proof.Machine.execErrInvalidCmd s
  | .errInvalidPar => Sys2Proof.Machine.execErrInvalidPar s
  | .errInvalidLen => Sys2Proof.Machine.execErrInvalidLen s
  | .errInvalidSeq => Sys2Proof.Machine.execErrInvalidSeq s
  | .errMsgTimeout => Sys2Proof.Machine.execErrMsgTimeout s
  | .errChannelBusy => Sys2Proof.Machine.execErrChannelBusy s
  | .errLockRequired => Sys2Proof.Machine.execErrLockRequired s
  | .errNa => Sys2Proof.Machine.execErrNa s
  | .errOther => Sys2Proof.Machine.execErrOther s
  | .faultPayloadTooLarge plen => Sys2Proof.Machine.execFaultPayloadTooLarge plen s
  | .faultMalformedFrame blen => Sys2Proof.Machine.execFaultMalformedFrame blen s
  | .faultNoFrame => Sys2Proof.Machine.execFaultNoFrame s
  | .faultKindMismatch kind => Sys2Proof.Machine.execFaultKindMismatch kind s
  | .faultBadOp op => Sys2Proof.Machine.execFaultBadOp op s
  | .faultBadTag err => Sys2Proof.Machine.execFaultBadTag err s
  | .kindInit => Sys2Proof.Machine.execKindInit s
  | .kindCont => Sys2Proof.Machine.execKindCont s

end Sys2Proof.Machine
end

