-- ==== Sys2Proof/Machine/Step.lean ====
section
/-! DEFINITION. One step: the next stimulus the host presents (00_scope.md R12). -/

namespace Sys2Proof.Machine

/-- One step. A request is performed whole, as the operation its ports select (20_memory.md R37, R40); `rst` resets, and the
request it abandons has no effect (70_reset_and_hazards.md R117); with nothing presented the block keeps its state (log
entry 3). -/
def step (s : State) : Host.Outcome State Fault Refusal :=
  match s.pending with
  | [] => .next s
  | .rst _ :: rest => .next (State.afterReset rest)
  | .request r :: rest => exec (decodeRequest r) { s with pending := rest }

/-- `s` with the request that presents the word of `nbits` bits put before everything the host has still to present, so that
the next step performs it (log entries 1 and 13). -/
def State.withFetchWord (s : State) (nbits w : Nat) : State :=
  match requestPresenting (wordOfTable nbits w) with
  | some r => { s with pending := .request r :: s.pending }
  | none => s

end Sys2Proof.Machine
end

