-- ==== Sys2Proof/Machine/Fleet.lean ====
section
/-! DEFINITION. Several instances of the block (20_memory.md R43): a list of states, each with its own host, in which one
steps at a time. -/

namespace Sys2Proof.Machine

/-- The system after instance `k` has made one step. A `k` that names no instance changes nothing. -/
def stepAt (k : Nat) (system : List State) : List State :=
  match system[k]? with
  | none => system
  | some s =>
    match step s with
    | .next t => system.set k t
    | .fault _ => system
    | .refused _ => system

end Sys2Proof.Machine
end

