-- ==== Sys2Proof/Machine/HostSide.lean ====
section
/-! DEFINITION. The host's side of the written form (30_encoding.md R61): requests with the defaults of `plen` and `blen`,
and the pseudo-operations (R62). -/

namespace Sys2Proof.Machine

/-- A payload of listed bytes on the 59-byte port: the bytes not listed are unspecified (R61), so each is a free value. -/
def listedPayload (payload : List Byte) : Bytes 59 :=
  tabulate 59 fun j => (payload[j]?).getD (Config.unlistedByte j)

/-- The ports of an instruction that is a request. -/
def requestOf (i : Instr) : Option Request :=
  match encode i with
  | .request r => some r
  | .report _ | .body _ | .cmdByte _ | .errByte _ | .faultCode _ _ | .kindBit _ => none

/-- The default `plen` of a written request: the number of bytes listed (R61). The 6-bit port holds at most 63 (10_state.md R23),
and the spec does not say what a request that lists more presents. DESIGN CHOICE, unsafe (log entry 19): it presents 63, which
both constructors answer with the fault the spec gives a payload too long for the frame (60_exceptions.md R103). -/
def listedLength (payload : List Byte) : BitVec 6 := BitVec.ofNat 6 (min payload.length 63)

/-- `INIT_NEW cid=… cmd=… size=… payload=[…]`, with `plen` by default (R61; above 63 bytes listed the model's choice, log entry
19). -/
def initNewOf (cid : Bytes 4) (cmd : BitVec 4) (size : BitVec 16) (payload : List Byte) : Instr :=
  .initNew cid cmd size (listedPayload payload) (listedLength payload)

/-- `CONT_NEW cid=… seq=… payload=[…]`, with `plen` by default (R61; above 63 bytes listed the model's choice, log entry 19). -/
def contNewOf (cid : Bytes 4) (seq : Byte) (payload : List Byte) : Instr :=
  .contNew cid seq (listedPayload payload) (listedLength payload)

/-- INIT_SEND: INIT_NEW then INIT_TO_WIRE (R62). R62 does not say whether the second part is presented after the first faults.
DESIGN CHOICE, unsafe (log entry 20): both always are. -/
def initSend (cid : Bytes 4) (cmd : BitVec 4) (size : BitVec 16) (payload : List Byte) : List Instr :=
  [initNewOf cid cmd size payload, .initToWire]

/-- CONT_SEND: CONT_NEW then CONT_TO_WIRE (R62); both always presented, as for INIT_SEND (DESIGN CHOICE, unsafe, log entry 20). -/
def contSend (cid : Bytes 4) (seq : Byte) (payload : List Byte) : List Instr :=
  [contNewOf cid seq payload, .contToWire]

/-- A program is a finite list of requests (00_scope.md R12): the stimuli of the instructions that are requests. -/
def programOf (is : List Instr) : List Stimulus := (is.filterMap requestOf).map .request

/-- A state whose host will present a program. -/
def State.withProgram (s : State) (program : List Stimulus) : State := { s with pending := program }

end Sys2Proof.Machine
end

