-- ==== Sys2Proof/Safety.lean ====
section
/-! DEFINITION. What claims are stated in: the invariant of reachable states, the frame of a step, the fault record, the
duties of the host, and which operations load or read FB. -/

namespace Sys2Proof.Machine

/-- The block's part of two states is the same (10_state.md R13). -/
abbrev State.SameBlock (s t : State) : Prop :=
  t.fb = s.fb ∧ t.valid = s.valid ∧ t.kind = s.kind ∧ t.fstat = s.fstat

/-- FB, VALID and KIND are the same, whatever FSTAT is. -/
abbrev State.SameFrame (s t : State) : Prop := t.fb = s.fb ∧ t.valid = s.valid ∧ t.kind = s.kind

/-- What every reachable state satisfies: FB[0] is 0x00 (10_state.md R16), FSTAT bit 0 reads 0 (R19), and until a load has
ended ok FB and KIND hold their reset values (R17, R25). -/
abbrev State.Inv (s : State) : Prop :=
  byteAt s.fb 0 = 0x00 ∧ s.fstat.getLsbD 0 = false ∧
    (s.valid = false → s.fb = State.reset.fb ∧ s.kind = State.reset.kind)

/-- A response of an operation that ended ok (10_state.md R23). -/
abbrev Response.isOk (r : Response) : Prop := r.ok_o = 1 ∧ r.fault_o = 0

/-- A response of an operation that faulted with the code given (10_state.md R23). -/
abbrev Response.isFault (r : Response) (code : BitVec 3) : Prop := r.ok_o = 0 ∧ r.fault_o = code

/-- No result port is part of the response (60_exceptions.md R113). -/
abbrev Response.noResults (r : Response) : Prop :=
  r.report_o = none ∧ r.cid_o = none ∧ r.cmd_o = none ∧ r.err_o = none ∧ r.size_o = none ∧ r.seq_o = none ∧
    r.pay_o = none ∧ r.paylen_o = none ∧ r.byte_o = none ∧ r.found_o = none ∧ r.alias_o = none ∧ r.kind_o = none

/-- "No fault recorded": `FSTAT[6:1] = 0` (60_exceptions.md R114). -/
abbrev State.faultFree (s : State) : Prop := s.fstat.extractLsb' 1 6 = 0

/-- The next state of an outcome, if it is one. -/
def nextState : Host.Outcome State Fault Refusal → Option State
  | .next t => some t
  | .fault _ => none
  | .refused _ => none

/-- The state after two instructions, one after the other. -/
def exec2 (i j : Instr) (s : State) : Option State := (nextState (exec i s)).bind fun t => nextState (exec j t)

/-- The state after a number of steps, if each of them answers a next state. -/
def afterSteps : Nat → State → Option State
  | 0, s => some s
  | n + 1, s => (nextState (step s)).bind (afterSteps n)

end Sys2Proof.Machine

namespace Sys2Proof

/-- The five loading operations (45_operation_set.md R99). -/
def Instr.isLoad : Instr → Bool
  | .initNew _ _ _ _ _ | .initFromWire _ _ | .contNew _ _ _ _ | .contFromWire _ _ | .rxDemux _ _ => true
  | _ => false

/-- The kind a reading operation requires, `none` for "any", for the ten that read FB (45_operation_set.md R99). -/
def Instr.readsAs : Instr → Option (Option Kind)
  | .initToWire | .initCid | .initCmd | .initSize | .initPayload => some (some .init)
  | .contToWire | .contCid | .contSeq | .contPayload => some (some .cont)
  | .txMux => some none
  | _ => none

/-- The operations of 30_encoding.md R58 and the reserved codes (R59): what a request can select. -/
def Instr.isRequest (i : Instr) : Bool := (encode i).format = .op

/-- The FSTAT bits an instruction can set: the last column of the table of 10_state.md R24, and for a row of a data format
the bit of the fault it raises. -/
def Instr.fstatCanSet : Instr → BitVec 8
  | .cmdEnc _ => 0x80
  | .errEnc _ | .faultBadTag _ => 0x40
  | .initNew _ _ _ _ _ => 0x82
  | .contNew _ _ _ _ | .faultPayloadTooLarge _ => 0x02
  | .initFromWire _ _ | .contFromWire _ _ | .classify _ _ | .rxDemux _ _ => 0x04
  | .frameInit _ _ _ _ | .frameCont _ _ _ | .faultMalformedFrame _ => 0x04
  | .initToWire | .initCid | .initCmd | .initSize | .initPayload => 0x18
  | .contToWire | .contCid | .contSeq | .contPayload => 0x18
  | .txMux | .faultNoFrame => 0x08
  | .faultKindMismatch _ => 0x10
  | .reserved04 | .reserved05 | .reserved06 | .reserved07 | .reserved0F | .reserved15 | .reserved17 => 0x20
  | .reserved1B | .reserved1C | .reserved1D | .reserved1E | .reserved1F | .faultBadOp _ => 0x20
  | .cmdDec _ | .errDec _ | .bodyInit _ _ _ _ | .bodyCont _ _ _ | .kindInit | .kindCont => 0x00
  | .cmdInvalid | .cmdPing | .cmdMsg | .cmdLock | .cmdInit => 0x00
  | .cmdWink | .cmdCbor | .cmdCancel | .cmdKeepalive | .cmdError => 0x00
  | .errInvalidCmd | .errInvalidPar | .errInvalidLen | .errInvalidSeq | .errMsgTimeout => 0x00
  | .errChannelBusy | .errLockRequired | .errNa | .errOther => 0x00

/-- The duties of the host toward one operation that the block does not check (70_reset_and_hazards.md R119, R120): a
sequence number of at most 127, and a load as the kind the type byte says. -/
def Instr.respectsHazards : Instr → Bool
  | .contNew _ seq _ _ => decide (seq.toNat ≤ Config.seqMax)
  | .initFromWire body _ => decide (Machine.bodyKind body = .init)
  | .contFromWire body _ => decide (Machine.bodyKind body = .cont)
  | _ => true

end Sys2Proof
end

