-- ==== Sys2Proof/Certificates/Slice0/Obligations.lean ====
section
/-! DEFINITION. The statements for the provers. A record update `{ s with … }` names everything an instruction changes: every
field it does not name is unchanged. -/

open Sys2Proof Sys2Proof.Machine

/-! ### Stepping, reset and decoding -/

/-- When the next stimulus is a request whose word decodes to a well-formed instruction, one step takes the request off the
host's list and runs that instruction (the list is the model's, log entry 1). -/
def Obligations.StepRunsDecodedRequest : Prop :=
  ∀ (s : State) (r : Request) (rest : List Stimulus) (i : Instr),
    s.pending = .request r :: rest → decode (.request r) = .ok i → i.wf = true →
    step s = exec i { s with pending := rest }

/-- With nothing presented, the block keeps its state (the model's choice, log entry 3). -/
def Obligations.IdleStepKeepsState : Prop :=
  ∀ s : State, s.pending = [] → step s = .next s

/-- `rst` gives FB, VALID, KIND and FSTAT their reset values, whatever request it abandons (R117). That no response is left
and that the host's list goes on are the model's choice (log entries 2 and 4). -/
def Obligations.ResetPinRestoresResetValues : Prop :=
  ∀ (s : State) (abandoned : Option Request) (rest : List Stimulus),
    s.pending = .rst abandoned :: rest →
    ∃ t, step s = .next t ∧ (∀ a, a < 65 → byteAt t.fb a = 0x00) ∧ t.valid = false ∧ t.kind = .init ∧ t.fstat = 0x00 ∧
      t.response = none ∧ t.pending = rest

/-- The reset values of the block's four items (R25). -/
def Obligations.ResetValues : Prop :=
  (∀ a, a < 65 → byteAt State.reset.fb a = 0x00) ∧ State.reset.valid = false ∧ State.reset.kind = .init ∧
    State.reset.fstat = 0x00

/-- Decoding the word the encoder writes gives the instruction back, for every well-formed instruction of every row. The
words of the data formats' rows are the model's choice, log entries 8 to 11. -/
def Obligations.DecodeOfEncode : Prop :=
  ∀ i : Instr, i.wf = true → decode (encode i) = .ok i

/-- A word of a data format that decodes is the word the encoder writes: no bit of it is dropped. That a fault code's word
carries the 7-bit `info` beside the code is the model's choice, log entry 10. -/
def Obligations.EncodeOfDecodedDataWord : Prop :=
  ∀ (w : TableWord) (i : Instr), w.format ≠ .op → decode w = .ok i → encode i = w

/-- A decoded instruction is well formed. -/
def Obligations.DecodedIsWellFormed : Prop :=
  ∀ (w : TableWord) (i : Instr), decode w = .ok i → i.wf = true

/-- Words written out from the encoding tables decode to the rows they stand for. That a bare byte below 0x20 is read as an
operation code is the model's choice, log entry 13. -/
def Obligations.SampleWordsDecode : Prop :=
  decodeTableWord 8 0x0A = some .initToWire ∧ decodeTableWord 8 0x14 = some .contSeq ∧
    decodeTableWord 8 0x1A = some .txMux ∧ decodeTableWord 8 0x17 = some .reserved17 ∧
    decode (.cmdByte 0x3B) = .ok .cmdKeepalive ∧ decode (.errByte 0x0B) = .ok .errNa ∧
    decode (.faultCode 0x3 0) = .ok .faultNoFrame ∧ decode (.kindBit 1) = .ok .kindCont

/-- The operation a request selects, by the group and the function of its code: twenty operations, and every other code is
reserved (R57, R58, R59). -/
def Obligations.OperationCodesSelectOperations : Prop :=
  ∀ r : Request,
    match (opGroup r.op_i).toNat, (opFunction r.op_i).toNat with
    | 0, 0 => decodeRequest r = .cmdEnc r.cmd_i
    | 0, 1 => decodeRequest r = .cmdDec r.byte_i
    | 0, 2 => decodeRequest r = .errEnc r.err_i
    | 0, 3 => decodeRequest r = .errDec r.byte_i
    | 1, 0 => decodeRequest r = .initNew r.cid_i r.cmd_i r.size_i r.pay_i r.plen_i
    | 1, 1 => decodeRequest r = .initFromWire r.body_i r.blen_i
    | 1, 2 => decodeRequest r = .initToWire
    | 1, 3 => decodeRequest r = .initCid
    | 1, 4 => decodeRequest r = .initCmd
    | 1, 5 => decodeRequest r = .initSize
    | 1, 6 => decodeRequest r = .initPayload
    | 2, 0 => decodeRequest r = .contNew r.cid_i r.seq_i r.pay_i r.plen_i
    | 2, 1 => decodeRequest r = .contFromWire r.body_i r.blen_i
    | 2, 2 => decodeRequest r = .contToWire
    | 2, 3 => decodeRequest r = .contCid
    | 2, 4 => decodeRequest r = .contSeq
    | 2, 6 => decodeRequest r = .contPayload
    | 3, 0 => decodeRequest r = .classify r.body_i r.blen_i
    | 3, 1 => decodeRequest r = .rxDemux r.body_i r.blen_i
    | 3, 2 => decodeRequest r = .txMux
    | _, _ => reservedOp r.op_i = true

/-- An operand port that the operation's rule does not name is ignored: for each port, a request of an operation that does
not use it selects the same instruction whatever stands there (R23, column "used by"). -/
def Obligations.UnnamedPortsAreIgnored : Prop :=
  ∀ r : Request,
    (r.op_i ∉ [0x08, 0x10] → ∀ v, decodeRequest { r with cid_i := v } = decodeRequest r) ∧
    (r.op_i ∉ [0x00, 0x08] → ∀ v, decodeRequest { r with cmd_i := v } = decodeRequest r) ∧
    (r.op_i ∉ [0x02] → ∀ v, decodeRequest { r with err_i := v } = decodeRequest r) ∧
    (r.op_i ∉ [0x08] → ∀ v, decodeRequest { r with size_i := v } = decodeRequest r) ∧
    (r.op_i ∉ [0x10] → ∀ v, decodeRequest { r with seq_i := v } = decodeRequest r) ∧
    (r.op_i ∉ [0x08, 0x10] → ∀ v, decodeRequest { r with pay_i := v } = decodeRequest r) ∧
    (r.op_i ∉ [0x08, 0x10] → ∀ v, decodeRequest { r with plen_i := v } = decodeRequest r) ∧
    (r.op_i ∉ [0x09, 0x11, 0x18, 0x19] → ∀ v, decodeRequest { r with body_i := v } = decodeRequest r) ∧
    (r.op_i ∉ [0x09, 0x11, 0x18, 0x19] → ∀ v, decodeRequest { r with blen_i := v } = decodeRequest r) ∧
    (r.op_i ∉ [0x01, 0x03] → ∀ v, decodeRequest { r with byte_i := v } = decodeRequest r)

/-! ### Code operations (41_codes.md) -/

/-- CMD_ENC: the byte of the tag, 0x00 with `alias_o` and FSTAT bit 7 for the tags 10 to 15 (R63, R67). -/
def Obligations.CmdEncAnswersWireByte : Prop :=
  ∀ (cmd : BitVec 4) (s : State), ∃ r,
    exec (.cmdEnc cmd) s =
      .next { s with fstat := if 10 ≤ cmd.toNat then s.fstat ||| 0x80 else s.fstat, response := some r } ∧
    r.isOk ∧ r.alias_o = some (if 10 ≤ cmd.toNat then 1 else 0) ∧
    r.byte_o = some (match cmd.toNat with
      | 0 => 0x00 | 1 => 0x01 | 2 => 0x03 | 3 => 0x04 | 4 => 0x06 | 5 => 0x08 | 6 => 0x10 | 7 => 0x11 | 8 => 0x3B
      | 9 => 0x3F | _ => 0x00)

/-- CMD_DEC: the tag of a byte in the table, Invalid with `found_o` 0 for every other byte, and no state written (R64,
R68). -/
def Obligations.CmdDecAnswersTag : Prop :=
  ∀ (b : Byte) (s : State), ∃ r,
    exec (.cmdDec b) s = .next { s with response := some r } ∧ r.isOk ∧
    (r.cmd_o, r.found_o) = (match b.toNat with
      | 0x00 => (some 0, some 1) | 0x01 => (some 1, some 1) | 0x03 => (some 2, some 1) | 0x04 => (some 3, some 1)
      | 0x06 => (some 4, some 1) | 0x08 => (some 5, some 1) | 0x10 => (some 6, some 1) | 0x11 => (some 7, some 1)
      | 0x3B => (some 8, some 1) | 0x3F => (some 9, some 1) | _ => (some 0, some 0))

/-- ERR_ENC: the byte of a tag 0 to 8, and no state written; BadTag for a tag 9 to 15 (R65, R69). -/
def Obligations.ErrEncAnswersWireByte : Prop :=
  ∀ (err : BitVec 4) (s : State),
    (err.toNat ≤ 8 → ∃ r,
      exec (.errEnc err) s = .next { s with response := some r } ∧ r.isOk ∧
      r.byte_o = some (match err.toNat with
        | 0 => 0x01 | 1 => 0x02 | 2 => 0x03 | 3 => 0x04 | 4 => 0x05 | 5 => 0x06 | 6 => 0x0A | 7 => 0x0B | _ => 0x7F)) ∧
    (9 ≤ err.toNat → ∃ r,
      exec (.errEnc err) s = .next { s with fstat := s.fstat ||| 0x40, response := some r } ∧ r.isFault 6)

/-- BadTag: raised by ERR_ENC of a tag 9 to 15, and by no other request; a command tag 10 to 15 does not raise it: CMD_ENC, and
INIT_NEW of at most 57 payload bytes, end ok with the byte 0x00 (R108). -/
def Obligations.BadTagRaisedByErrEncAlone : Prop :=
  (∀ (err : BitVec 4) (s : State), 9 ≤ err.toNat → ∃ r,
    exec (.errEnc err) s = .next { s with fstat := s.fstat ||| 0x40, response := some r } ∧ r.isFault 6) ∧
  (∀ (cmd : BitVec 4) (s t : State), 10 ≤ cmd.toNat → exec (.cmdEnc cmd) s = .next t →
    ∃ r, t.response = some r ∧ r.isOk ∧ r.byte_o = some 0x00) ∧
  (∀ cid cmd size pay plen (s t : State), 10 ≤ cmd.toNat → plen.toNat ≤ 57 →
    exec (.initNew cid cmd size pay plen) s = .next t → ∃ r, t.response = some r ∧ r.isOk ∧ byteAt t.fb 5 = 0x80) ∧
  (∀ (q : Request) (s t : State) (r : Response), exec (decodeRequest q) s = .next t → t.response = some r →
    r.fault_o = 6 → q.op_i = 0x02 ∧ 9 ≤ q.err_i.toNat)

/-- ERR_DEC: the tag of a byte in the table, tag 15 with `found_o` 0 for every other byte, and no state written (R66, R70). -/
def Obligations.ErrDecAnswersTag : Prop :=
  ∀ (b : Byte) (s : State), ∃ r,
    exec (.errDec b) s = .next { s with response := some r } ∧ r.isOk ∧
    (r.err_o, r.found_o) = (match b.toNat with
      | 0x01 => (some 0, some 1) | 0x02 => (some 1, some 1) | 0x03 => (some 2, some 1) | 0x04 => (some 3, some 1)
      | 0x05 => (some 4, some 1) | 0x06 => (some 5, some 1) | 0x0A => (some 6, some 1) | 0x0B => (some 7, some 1)
      | 0x7F => (some 8, some 1) | _ => (some 15, some 0))

/-- The laws (a) to (f) of the two code tables (R72). -/
def Obligations.CodeTableLaws : Prop :=
  (∀ t : BitVec 4, t.toNat ≤ 9 → cmdOfByte (cmdByte t) = (t, 1)) ∧
  (∀ t : BitVec 4, 10 ≤ t.toNat → cmdOfByte (cmdByte t) = (0, 1)) ∧
  (∀ b : Byte, ((cmdOfByte b).2 = 1 → cmdByte (cmdOfByte b).1 = b) ∧
    ((cmdOfByte b).2 = 0 → cmdByte (cmdOfByte b).1 = 0x00 ∧ b ≠ 0x00)) ∧
  (∀ t : BitVec 4, t.toNat ≤ 8 → ∃ e, errorOfTag t = some e ∧ errOfByte (errorByte e) = (t, 1)) ∧
  (∀ (b : Byte) (t : BitVec 4), errOfByte b = (t, 1) → ∃ e, errorOfTag t = some e ∧ errorByte e = b) ∧
  (∀ t u : BitVec 4, t.toNat ≤ 9 → u.toNat ≤ 9 → cmdByte t = cmdByte u → t = u) ∧
  (∀ e f : ErrorCode, errorByte e = errorByte f → e = f) ∧
  (∀ t : BitVec 4, cmdByte t &&& 0x80 = 0 ∧ (0x80 ||| cmdByte t) &&& 0x7F = cmdByte t)

/-! ### Building and loading frames -/

/-- INIT_NEW: for at most 57 payload bytes every byte of FB, VALID, KIND, ALIAS and the response; above 57 PayloadTooLarge, and
nothing else is written (R75). -/
def Obligations.InitNewBuildsFrame : Prop :=
  ∀ (cid : Bytes 4) (cmd : BitVec 4) (size : BitVec 16) (pay : Bytes 59) (plen : BitVec 6) (s : State),
    (plen.toNat ≤ 57 → ∃ v r,
      exec (.initNew cid cmd size pay plen) s =
        .next { s with fb := v, valid := true, kind := .init,
                       fstat := if 10 ≤ cmd.toNat then s.fstat ||| 0x80 else s.fstat, response := some r } ∧
      r.isOk ∧ r.alias_o = some (if 10 ≤ cmd.toNat then 1 else 0) ∧
      byteAt v 0 = 0x00 ∧ (∀ i, i < 4 → byteAt v (1 + i) = byteAt cid i) ∧ byteAt v 5 = 0x80 ||| cmdByte cmd ∧
      byteAt v 6 = size.extractLsb' 8 8 ∧ byteAt v 7 = size.extractLsb' 0 8 ∧
      ∀ j, j < 57 → byteAt v (8 + j) = if j < plen.toNat then byteAt pay j else 0x00) ∧
    (57 < plen.toNat → ∃ r,
      exec (.initNew cid cmd size pay plen) s = .next { s with fstat := s.fstat ||| 0x02, response := some r } ∧
      r.isFault 1)

/-- CONT_NEW: for at most 59 payload bytes every byte of FB, VALID, KIND and the response, with all eight bits of the sequence
number stored; above 59 PayloadTooLarge, and nothing else is written (R83). -/
def Obligations.ContNewBuildsFrame : Prop :=
  ∀ (cid : Bytes 4) (seq : Byte) (pay : Bytes 59) (plen : BitVec 6) (s : State),
    (plen.toNat ≤ 59 → ∃ v r,
      exec (.contNew cid seq pay plen) s = .next { s with fb := v, valid := true, kind := .cont, response := some r } ∧
      r.isOk ∧ byteAt v 0 = 0x00 ∧ (∀ i, i < 4 → byteAt v (1 + i) = byteAt cid i) ∧ byteAt v 5 = seq ∧
      ∀ j, j < 59 → byteAt v (6 + j) = if j < plen.toNat then byteAt pay j else 0x00) ∧
    (59 < plen.toNat → ∃ r,
      exec (.contNew cid seq pay plen) s = .next { s with fstat := s.fstat ||| 0x02, response := some r } ∧ r.isFault 1)

/-- PayloadTooLarge: raised by INIT_NEW above 57 and by CONT_NEW above 59, with nothing written but FSTAT bit 1; so a payload of
58 or 59 bytes faults in INIT_NEW and succeeds in CONT_NEW (R103). -/
def Obligations.PayloadTooLargeRaised : Prop :=
  (∀ cid cmd size pay (plen : BitVec 6) (s : State), 57 < plen.toNat → ∃ r,
    exec (.initNew cid cmd size pay plen) s = .next { s with fstat := s.fstat ||| 0x02, response := some r } ∧
    r.isFault 1) ∧
  (∀ cid seq pay (plen : BitVec 6) (s : State), 59 < plen.toNat → ∃ r,
    exec (.contNew cid seq pay plen) s = .next { s with fstat := s.fstat ||| 0x02, response := some r } ∧ r.isFault 1) ∧
  (∀ cid cmd size pay (plen : BitVec 6) (s : State), plen.toNat ≤ 57 → ∃ t r,
    exec (.initNew cid cmd size pay plen) s = .next t ∧ t.response = some r ∧ r.isOk) ∧
  (∀ cid seq pay (plen : BitVec 6) (s : State), plen.toNat ≤ 59 → ∃ t r,
    exec (.contNew cid seq pay plen) s = .next t ∧ t.response = some r ∧ r.isOk)

/-- Payload bytes at and above `plen` are ignored by both constructors (R39, U10). -/
def Obligations.PayloadTailIgnored : Prop :=
  ∀ (pay pay' : Bytes 59) (plen : BitVec 6) (s : State), (∀ j, j < plen.toNat → byteAt pay j = byteAt pay' j) →
    (∀ cid cmd size, exec (.initNew cid cmd size pay plen) s = exec (.initNew cid cmd size pay' plen) s) ∧
    (∀ cid seq, exec (.contNew cid seq pay plen) s = exec (.contNew cid seq pay' plen) s)

/-- INIT_FROM_WIRE: a body of 64 bytes, whatever they are, becomes an init frame; any other length raises
MalformedFrame, and nothing else is written (R76). -/
def Obligations.InitFromWireLoadsBody : Prop :=
  ∀ (body : Bytes 64) (blen : BitVec 7) (s : State),
    (blen.toNat = 64 → ∃ v r,
      exec (.initFromWire body blen) s = .next { s with fb := v, valid := true, kind := .init, response := some r } ∧
      r.isOk ∧ byteAt v 0 = 0x00 ∧ ∀ k, k < 64 → byteAt v (1 + k) = byteAt body k) ∧
    (blen.toNat ≠ 64 → ∃ r,
      exec (.initFromWire body blen) s = .next { s with fstat := s.fstat ||| 0x04, response := some r } ∧ r.isFault 2)

/-- CONT_FROM_WIRE: a body of 64 bytes, whatever they are, becomes a continuation frame; any other length raises
MalformedFrame, and nothing else is written (R84). -/
def Obligations.ContFromWireLoadsBody : Prop :=
  ∀ (body : Bytes 64) (blen : BitVec 7) (s : State),
    (blen.toNat = 64 → ∃ v r,
      exec (.contFromWire body blen) s = .next { s with fb := v, valid := true, kind := .cont, response := some r } ∧
      r.isOk ∧ byteAt v 0 = 0x00 ∧ ∀ k, k < 64 → byteAt v (1 + k) = byteAt body k) ∧
    (blen.toNat ≠ 64 → ∃ r,
      exec (.contFromWire body blen) s = .next { s with fstat := s.fstat ||| 0x04, response := some r } ∧ r.isFault 2)

/-- RX_DEMUX: a body of 64 bytes becomes a frame of the kind that bit 7 of its byte 4 says, and `kind_o` says it; any other
length raises MalformedFrame, and nothing else is written (R93). -/
def Obligations.RxDemuxLoadsBody : Prop :=
  ∀ (body : Bytes 64) (blen : BitVec 7) (s : State),
    (blen.toNat = 64 → ∃ v r,
      exec (.rxDemux body blen) s =
        .next { s with fb := v, valid := true, kind := if 128 ≤ (byteAt body 4).toNat then .init else .cont,
                       response := some r } ∧
      r.isOk ∧ r.kind_o = some (if 128 ≤ (byteAt body 4).toNat then 0 else 1) ∧
      byteAt v 0 = 0x00 ∧ ∀ k, k < 64 → byteAt v (1 + k) = byteAt body k) ∧
    (blen.toNat ≠ 64 → ∃ r,
      exec (.rxDemux body blen) s = .next { s with fstat := s.fstat ||| 0x04, response := some r } ∧ r.isFault 2)

/-- CLASSIFY: for a body of 64 bytes the kind that bit 7 of its byte 4 says, and no state read or written; any other length
raises MalformedFrame (R91, R92). -/
def Obligations.ClassifyAnswersKind : Prop :=
  ∀ (body : Bytes 64) (blen : BitVec 7) (s : State),
    (blen.toNat = 64 → ∃ r,
      exec (.classify body blen) s = .next { s with response := some r } ∧ r.isOk ∧
      r.kind_o = some (if 128 ≤ (byteAt body 4).toNat then 0 else 1)) ∧
    (blen.toNat ≠ 64 → ∃ r,
      exec (.classify body blen) s = .next { s with fstat := s.fstat ||| 0x04, response := some r } ∧ r.isFault 2)

/-- MalformedFrame: raised by the four operations that take a body when its length is not 64, with nothing written but FSTAT
bit 2; and for no other reason: with the length 64 each of them ends ok, whatever the 64 bytes are (R104). -/
def Obligations.MalformedFrameRaised : Prop :=
  ∀ (body : Bytes 64) (blen : BitVec 7) (s : State),
    ∀ i ∈ [Instr.initFromWire body blen, .contFromWire body blen, .classify body blen, .rxDemux body blen],
      (blen.toNat ≠ 64 → ∃ r,
        exec i s = .next { s with fstat := s.fstat ||| 0x04, response := some r } ∧ r.isFault 2) ∧
      (blen.toNat = 64 → ∃ t r, exec i s = .next t ∧ t.response = some r ∧ r.isOk)

/-- RX_DEMUX leaves what CLASSIFY followed by the FROM_WIRE of the kind it answers leaves (R93). -/
def Obligations.RxDemuxIsClassifyThenFromWire : Prop :=
  ∀ (body : Bytes 64) (s : State), ∃ r t u,
    exec (.classify body 64) s = .next { s with response := some r } ∧
    exec (if r.kind_o = some 0 then .initFromWire body 64 else .contFromWire body 64) { s with response := some r } =
      .next t ∧
    exec (.rxDemux body 64) s = .next u ∧ u.SameBlock t ∧ u.pending = t.pending ∧
    u.response.map Response.kind_o = some r.kind_o

/-! ### Reading frames -/

/-- The five init reads of an init frame: the report, the channel id, the command, BCNT and the data region, and no state
written (R77 to R81). -/
def Obligations.InitReadsAnswer : Prop :=
  ∀ s : State, s.valid = true → s.kind = .init →
    (∃ r, exec .initToWire s = .next { s with response := some r } ∧ r.isOk ∧ ∃ v, r.report_o = some v ∧
      ∀ a, a < 65 → byteAt v a = byteAt s.fb a) ∧
    (∃ r, exec .initCid s = .next { s with response := some r } ∧ r.isOk ∧ ∃ c, r.cid_o = some c ∧
      ∀ i, i < 4 → byteAt c i = byteAt s.fb (1 + i)) ∧
    (∃ r, exec .initCmd s = .next { s with response := some r } ∧ r.isOk ∧
      r.cmd_o = some (cmdOfByte (byteAt s.fb 5 &&& 0x7F)).1 ∧ r.found_o = some (cmdOfByte (byteAt s.fb 5 &&& 0x7F)).2) ∧
    (∃ r, exec .initSize s = .next { s with response := some r } ∧ r.isOk ∧ ∃ z, r.size_o = some z ∧
      z.toNat = (byteAt s.fb 6).toNat * 256 + (byteAt s.fb 7).toNat) ∧
    (∃ r, exec .initPayload s = .next { s with response := some r } ∧ r.isOk ∧ r.paylen_o = some 57 ∧
      ∃ p, r.pay_o = some p ∧ (∀ j, j < 57 → byteAt p j = byteAt s.fb (8 + j)) ∧ byteAt p 57 = 0x00 ∧
        byteAt p 58 = 0x00)

/-- The four continuation reads of a continuation frame: the report, the channel id, the sequence byte raw and the data
region, and no state written (R85 to R88). -/
def Obligations.ContReadsAnswer : Prop :=
  ∀ s : State, s.valid = true → s.kind = .cont →
    (∃ r, exec .contToWire s = .next { s with response := some r } ∧ r.isOk ∧ ∃ v, r.report_o = some v ∧
      ∀ a, a < 65 → byteAt v a = byteAt s.fb a) ∧
    (∃ r, exec .contCid s = .next { s with response := some r } ∧ r.isOk ∧ ∃ c, r.cid_o = some c ∧
      ∀ i, i < 4 → byteAt c i = byteAt s.fb (1 + i)) ∧
    (∃ r, exec .contSeq s = .next { s with response := some r } ∧ r.isOk ∧ r.seq_o = some (byteAt s.fb 5)) ∧
    (∃ r, exec .contPayload s = .next { s with response := some r } ∧ r.isOk ∧ r.paylen_o = some 59 ∧
      ∃ p, r.pay_o = some p ∧ ∀ j, j < 59 → byteAt p j = byteAt s.fb (6 + j))

/-- TX_MUX: of a frame of either kind the report, with the KIND register on `kind_o`, and no state written; without a frame
NoFrame (R94). -/
def Obligations.TxMuxAnswers : Prop :=
  ∀ s : State,
    (s.valid = true → ∃ r,
      exec .txMux s = .next { s with response := some r } ∧ r.isOk ∧
      r.kind_o = some (match s.kind with | .init => 0 | .cont => 1) ∧
      ∃ v, r.report_o = some v ∧ ∀ a, a < 65 → byteAt v a = byteAt s.fb a) ∧
    (s.valid = false → ∃ r,
      exec .txMux s = .next { s with fstat := s.fstat ||| 0x08, response := some r } ∧ r.isFault 3)

/-- NoFrame: raised by each of the ten reading operations while VALID = 0, whatever KIND holds (R105, R112). -/
def Obligations.NoFrameRaised : Prop :=
  ∀ s : State, s.valid = false →
    ∀ i ∈ [Instr.initToWire, .initCid, .initCmd, .initSize, .initPayload, .contToWire, .contCid, .contSeq, .contPayload,
        .txMux], ∃ r,
      exec i s = .next { s with fstat := s.fstat ||| 0x08, response := some r } ∧ r.isFault 3

/-- KindMismatch: raised by the five init reads while KIND = CONT and by the four continuation reads while KIND = INIT,
whatever FB[5] holds (R106). -/
def Obligations.KindMismatchRaised : Prop :=
  ∀ s : State, s.valid = true →
    (s.kind = .cont → ∀ i ∈ [Instr.initToWire, .initCid, .initCmd, .initSize, .initPayload], ∃ r,
      exec i s = .next { s with fstat := s.fstat ||| 0x10, response := some r } ∧ r.isFault 4) ∧
    (s.kind = .init → ∀ i ∈ [Instr.contToWire, .contCid, .contSeq, .contPayload], ∃ r,
      exec i s = .next { s with fstat := s.fstat ||| 0x10, response := some r } ∧ r.isFault 4)

/-- BadOp: a request with a reserved code raises it whatever the other ports and the state hold, and each of the twelve
reserved rows is that (R59, R107). -/
def Obligations.ReservedCodesRaiseBadOp : Prop :=
  (∀ (q : Request) (s : State),
    q.op_i ∈ [0x04, 0x05, 0x06, 0x07, 0x0F, 0x15, 0x17, 0x1B, 0x1C, 0x1D, 0x1E, 0x1F] → ∃ r,
    exec (decodeRequest q) s = .next { s with fstat := s.fstat ||| 0x20, response := some r } ∧ r.isFault 5) ∧
  (∀ s : State, ∀ i ∈ [Instr.reserved04, .reserved05, .reserved06, .reserved07, .reserved0F, .reserved15, .reserved17,
      .reserved1B, .reserved1C, .reserved1D, .reserved1E, .reserved1F], ∃ r,
    exec i s = .next { s with fstat := s.fstat ||| 0x20, response := some r } ∧ r.isFault 5)

/-! ### The rows of the data formats (log entries 8 to 11) -/

/-- A command byte's row answers what CMD_DEC answers for that byte: its tag, found (R51, R64; the model's meaning of the
row, log entry 8). -/
def Obligations.CommandByteRowsAnswerTag : Prop :=
  ∀ s : State, ∀ p ∈ [(Instr.cmdInvalid, (0 : BitVec 4)), (.cmdPing, 1), (.cmdMsg, 2), (.cmdLock, 3), (.cmdInit, 4),
      (.cmdWink, 5), (.cmdCbor, 6), (.cmdCancel, 7), (.cmdKeepalive, 8), (.cmdError, 9)], ∃ r,
    exec p.1 s = .next { s with response := some r } ∧ r.isOk ∧ r.cmd_o = some p.2 ∧ r.found_o = some 1

/-- An error byte's row answers what ERR_DEC answers for that byte: its tag, found (R52, R66; the model's meaning of the
row, log entry 8). -/
def Obligations.ErrorByteRowsAnswerTag : Prop :=
  ∀ s : State, ∀ p ∈ [(Instr.errInvalidCmd, (0 : BitVec 4)), (.errInvalidPar, 1), (.errInvalidLen, 2),
      (.errInvalidSeq, 3), (.errMsgTimeout, 4), (.errChannelBusy, 5), (.errLockRequired, 6), (.errNa, 7),
      (.errOther, 8)], ∃ r,
    exec p.1 s = .next { s with response := some r } ∧ r.isOk ∧ r.err_o = some p.2 ∧ r.found_o = some 1

/-- A body's row loads that body as the kind of the row, field by field (R48, R93; the model's meaning of the row, log entry
8). -/
def Obligations.BodyRowsLoadFrame : Prop :=
  (∀ (cid : Bytes 4) (command : BitVec 7) (size : BitVec 16) (data : Bytes 57) (s : State), ∃ v r,
    exec (.bodyInit cid command size data) s =
      .next { s with fb := v, valid := true, kind := .init, response := some r } ∧
    r.isOk ∧ r.kind_o = some 0 ∧ byteAt v 0 = 0x00 ∧ (∀ i, i < 4 → byteAt v (1 + i) = byteAt cid i) ∧
    (byteAt v 5).toNat = 128 + command.toNat ∧ (byteAt v 6).toNat * 256 + (byteAt v 7).toNat = size.toNat ∧
    ∀ j, j < 57 → byteAt v (8 + j) = byteAt data j) ∧
  (∀ (cid : Bytes 4) (seq : BitVec 7) (data : Bytes 59) (s : State), ∃ v r,
    exec (.bodyCont cid seq data) s =
      .next { s with fb := v, valid := true, kind := .cont, response := some r } ∧
    r.isOk ∧ r.kind_o = some 1 ∧ byteAt v 0 = 0x00 ∧ (∀ i, i < 4 → byteAt v (1 + i) = byteAt cid i) ∧
    (byteAt v 5).toNat = seq.toNat ∧ ∀ j, j < 59 → byteAt v (6 + j) = byteAt data j)

/-- A report's row is a report presented with all its 65 bytes, which raises MalformedFrame (R123; the model's meaning of
the row, log entry 9). -/
def Obligations.ReportRowsRaiseMalformedFrame : Prop :=
  (∀ cid command size data (s : State), ∃ r,
    exec (.frameInit cid command size data) s = .next { s with fstat := s.fstat ||| 0x04, response := some r } ∧
    r.isFault 2) ∧
  (∀ cid seq data (s : State), ∃ r,
    exec (.frameCont cid seq data) s = .next { s with fstat := s.fstat ||| 0x04, response := some r } ∧ r.isFault 2)

/-- A fault code's row raises that fault: the bit of FSTAT and the code of the response (R102, R113; the model's meaning of
the row, log entry 10). -/
def Obligations.FaultRowsRaise : Prop :=
  ∀ (plen : BitVec 6) (blen : BitVec 7) (kind : Kind) (op : BitVec 5) (err : BitVec 4) (s : State),
    ∀ p ∈ [(Instr.faultPayloadTooLarge plen, (1 : BitVec 3)), (.faultMalformedFrame blen, 2), (.faultNoFrame, 3),
        (.faultKindMismatch kind, 4), (.faultBadOp op, 5), (.faultBadTag err, 6)], ∃ r,
      exec p.1 s = .next { s with fstat := s.fstat ||| (1 <<< p.2.toNat), response := some r } ∧ r.isFault p.2 ∧ r.noResults

/-- A kind bit's row is the answer that carries it (R56, R92; the model's meaning of the row, log entry 11). -/
def Obligations.KindRowsAnswerKind : Prop :=
  ∀ s : State, ∀ p ∈ [(Instr.kindInit, (0 : BitVec 1)), (.kindCont, 1)], ∃ r,
    exec p.1 s = .next { s with response := some r } ∧ r.isOk ∧ r.kind_o = some p.2

/-- The request that presents a row's word does exactly what the row does (log entries 8 and 9). -/
def Obligations.RowsActAsTheirRequest : Prop :=
  ∀ (i : Instr) (q : Request) (s : State), requestPresenting (encode i) = some q → exec (decodeRequest q) s = exec i s

/-- An operation whose fault condition holds does exactly what that fault's row does (R103 to R108, R113, log entry 10). -/
def Obligations.OperationFaultsAreFaultRows : Prop :=
  (∀ cid cmd size pay (plen : BitVec 6) (s : State), 57 < plen.toNat →
    exec (.initNew cid cmd size pay plen) s = exec (.faultPayloadTooLarge plen) s) ∧
  (∀ cid seq pay (plen : BitVec 6) (s : State), 59 < plen.toNat →
    exec (.contNew cid seq pay plen) s = exec (.faultPayloadTooLarge plen) s) ∧
  (∀ body (blen : BitVec 7) (s : State), blen.toNat ≠ 64 →
    ∀ i ∈ [Instr.initFromWire body blen, .contFromWire body blen, .classify body blen, .rxDemux body blen],
      exec i s = exec (.faultMalformedFrame blen) s) ∧
  (∀ (i : Instr) (s : State), i.readsAs ≠ none → s.valid = false → exec i s = exec .faultNoFrame s) ∧
  (∀ (i : Instr) (k : Kind) (s : State), i.readsAs = some (some k) → s.valid = true → s.kind ≠ k →
    exec i s = exec (.faultKindMismatch s.kind) s) ∧
  (∀ (q : Request) (s : State), reservedOp q.op_i = true → exec (decodeRequest q) s = exec (.faultBadOp q.op_i) s) ∧
  (∀ (err : BitVec 4) (s : State), 9 ≤ err.toNat → exec (.errEnc err) s = exec (.faultBadTag err) s)

/-! ### Rules about all instructions -/

/-- Every instruction answers a next state, with the host's list as it was and a response (R12, R113). -/
def Obligations.ExecAlwaysAnswers : Prop :=
  ∀ (i : Instr) (s : State), ∃ t, exec i s = .next t ∧ t.pending = s.pending ∧ t.response.isSome = true

/-- A fault is precise: where the response has `ok_o = 0`, FB, VALID and KIND are as before, exactly the FSTAT bit of the
code is set, the code is 1 to 6, and no result port is part of the response (R113); and where it has `ok_o = 1`, the code is
0 and no fault's bit of FSTAT changes (R102, R109). -/
def Obligations.FaultsArePrecise : Prop :=
  ∀ (i : Instr) (s t : State) (r : Response), exec i s = .next t → t.response = some r →
    (r.ok_o = 0 → t.SameFrame s ∧ t.fstat = s.fstat ||| (1 <<< r.fault_o.toNat) ∧ 1 ≤ r.fault_o.toNat ∧
      r.fault_o.toNat ≤ 6 ∧ r.noResults) ∧
    (r.ok_o = 1 → r.fault_o = 0 ∧ t.fstat.extractLsb' 0 7 = s.fstat.extractLsb' 0 7)

/-- FSTAT is sticky: an instruction clears no bit, and sets only bits that its row of R24 names (R19, R24). -/
def Obligations.FstatIsSticky : Prop :=
  ∀ (i : Instr) (s t : State), exec i s = .next t →
    s.fstat &&& t.fstat = s.fstat ∧ t.fstat &&& ~~~(s.fstat ||| i.fstatCanSet) = 0

/-- VALID after a request is 1 exactly if it was 1 or the request is a load that ended ok (R17). -/
def Obligations.ValidSetByLoadsAlone : Prop :=
  ∀ (q : Request) (s t : State), exec (decodeRequest q) s = .next t →
    (t.valid = true ↔
      s.valid = true ∨ ((decodeRequest q).isLoad = true ∧ t.response.map Response.ok_o = some 1))

/-- Only the five loading operations write FB, VALID or KIND (R99, R24). -/
def Obligations.OnlyLoadsWriteFrame : Prop :=
  ∀ (q : Request) (s t : State), exec (decodeRequest q) s = .next t → (decodeRequest q).isLoad = false → t.SameFrame s

/-- A read that ends ok changes nothing of the block (R38). -/
def Obligations.ReadsChangeNothing : Prop :=
  ∀ (i : Instr) (s t : State), i.readsAs ≠ none → exec i s = .next t → t.response.map Response.ok_o = some 1 →
    t.SameBlock s ∧ t.pending = s.pending

/-- Every operation is idempotent: repeated at once, it leaves the same state and the same response (R38). -/
def Obligations.OperationsAreIdempotent : Prop :=
  ∀ (i : Instr) (s : State), exec2 i i s = nextState (exec i s)

/-- Two responses to the same instruction from the same FB, VALID and KIND are identical, and so are the frames left, whatever
FSTAT, earlier responses and the host's list are (R26). -/
def Obligations.ResponseDependsOnFrameAlone : Prop :=
  ∀ (i : Instr) (s s' t t' : State), s.SameFrame s' → exec i s = .next t → exec i s' = .next t' →
    t.response = t'.response ∧ t.SameFrame t'

/-- A request after a fault behaves as if the faulting one had not been made, apart from its FSTAT bit (R114). -/
def Obligations.FaultLeavesNextRequestAlone : Prop :=
  ∀ (i j : Instr) (s t u v : State), exec i s = .next t → t.response.map Response.ok_o = some 0 →
    exec j s = .next u → exec j t = .next v →
    u.response = v.response ∧ u.SameFrame v ∧ v.fstat = u.fstat ||| t.fstat

/-! ### Laws over several operations -/

/-- The init round trip: the frame built by INIT_NEW and emitted by INIT_TO_WIRE, less its byte 0, gives a receiver the same
65 bytes, the same channel id, command (Invalid for the tags 10 to 15), size and zero-padded payload; and byte 5 has its
high bit set (R82). -/
def Obligations.InitRoundTrip : Prop :=
  ∀ (s s' : State) (cid : Bytes 4) (cmd : BitVec 4) (size : BitVec 16) (pay : Bytes 59) (plen : BitVec 6),
    plen.toNat ≤ 57 → ∃ t r report u rc rm rz rp,
    exec (.initNew cid cmd size pay plen) s = .next t ∧
    exec .initToWire t = .next { t with response := some r } ∧ r.report_o = some report ∧
    exec (.initFromWire (bodyOf report) 64) s' = .next u ∧ u.fb = t.fb ∧
    (byteAt t.fb 5).getLsbD 7 = true ∧
    exec .initCid u = .next { u with response := some rc } ∧ rc.cid_o = some cid ∧
    exec .initCmd u = .next { u with response := some rm } ∧ rm.found_o = some 1 ∧
    rm.cmd_o = some (if cmd.toNat ≤ 9 then cmd else 0) ∧
    exec .initSize u = .next { u with response := some rz } ∧ rz.size_o = some size ∧
    exec .initPayload u = .next { u with response := some rp } ∧
    ∃ p, rp.pay_o = some p ∧ ∀ j, j < 57 → byteAt p j = if j < plen.toNat then byteAt pay j else 0x00

/-- The continuation round trip, for every sequence byte, and the high bit of byte 5 (R89). -/
def Obligations.ContRoundTrip : Prop :=
  ∀ (s s' : State) (cid : Bytes 4) (seq : Byte) (pay : Bytes 59) (plen : BitVec 6),
    plen.toNat ≤ 59 → ∃ t r report u rc rq rp,
    exec (.contNew cid seq pay plen) s = .next t ∧
    exec .contToWire t = .next { t with response := some r } ∧ r.report_o = some report ∧
    exec (.contFromWire (bodyOf report) 64) s' = .next u ∧ u.fb = t.fb ∧
    ((byteAt t.fb 5).getLsbD 7 = false ↔ seq.toNat ≤ 127) ∧
    exec .contCid u = .next { u with response := some rc } ∧ rc.cid_o = some cid ∧
    exec .contSeq u = .next { u with response := some rq } ∧ rq.seq_o = some seq ∧
    exec .contPayload u = .next { u with response := some rp } ∧
    ∃ p, rp.pay_o = some p ∧ ∀ j, j < 59 → byteAt p j = if j < plen.toNat then byteAt pay j else 0x00

/-- Frame-type disambiguation: a receiver classifies the body of a built init frame as INIT, of a built continuation frame as
CONT if its sequence number is at most 127 and as INIT above (R96 (a), (b), (c), R119). -/
def Obligations.BuiltFramesClassify : Prop :=
  (∀ (s s' t : State) cid cmd size pay (plen : BitVec 6), plen.toNat ≤ 57 →
    exec (.initNew cid cmd size pay plen) s = .next t →
    ∃ r, exec (.classify (bodyOf t.fb) 64) s' = .next { s' with response := some r } ∧ r.kind_o = some 0) ∧
  (∀ (s s' t : State) cid (seq : Byte) pay (plen : BitVec 6), plen.toNat ≤ 59 →
    exec (.contNew cid seq pay plen) s = .next t → t.kind = .cont ∧
    ∃ r, exec (.classify (bodyOf t.fb) 64) s' = .next { s' with response := some r } ∧
      r.kind_o = some (if seq.toNat ≤ 127 then 1 else 0))

/-- After RX_DEMUX, KIND agrees with bit 7 of FB[5]; and TX_MUX followed by RX_DEMUX of the report's body restores FB, and
restores KIND exactly if it agreed before (R96 (d), (e)). FB[0] = 0x00 is a premise, which every reachable state satisfies
(R16). -/
def Obligations.TxMuxThenRxDemux : Prop :=
  (∀ (body : Bytes 64) (s t : State), exec (.rxDemux body 64) s = .next t → t.kind = kindOf (byteAt t.fb 5)) ∧
  (∀ s : State, s.valid = true → byteAt s.fb 0 = 0x00 → ∃ r report t,
    exec .txMux s = .next { s with response := some r } ∧ r.report_o = some report ∧
    exec (.rxDemux (bodyOf report) 64) s = .next t ∧ t.fb = s.fb ∧ (t.kind = s.kind ↔ s.kind = kindOf (byteAt s.fb 5)))

/-- A body loaded as the caller says ends ok and is read under that layout, whatever its type byte says: as an init frame the
command is decoded from the low seven bits and BCNT is the next two bytes; as a continuation frame the sequence number is the
type byte raw and the data begins with those two bytes (R120). -/
def Obligations.MisloadedBodiesReadAsAsked : Prop :=
  ∀ (body : Bytes 64) (s : State),
    (∃ t r rm rz,
      exec (.initFromWire body 64) s = .next t ∧ t.response = some r ∧ r.isOk ∧
      exec .initCmd t = .next { t with response := some rm } ∧ rm.cmd_o = some (cmdOfByte (byteAt body 4 &&& 0x7F)).1 ∧
      exec .initSize t = .next { t with response := some rz } ∧ rz.size_o = some (be16 (byteAt body 5) (byteAt body 6))) ∧
    (∃ t r rq rp p,
      exec (.contFromWire body 64) s = .next t ∧ t.response = some r ∧ r.isOk ∧
      exec .contSeq t = .next { t with response := some rq } ∧ rq.seq_o = some (byteAt body 4) ∧
      exec .contPayload t = .next { t with response := some rp } ∧ rp.pay_o = some p ∧ byteAt p 0 = byteAt body 5 ∧
      byteAt p 1 = byteAt body 6)

/-- BCNT is big-endian and comes back: the reassembly of the two bytes of a size is the size, for all 65536 (R97 (d), R32). -/
def Obligations.BcntIsBigEndian : Prop :=
  (∀ h l : Byte, (be16 h l).toNat = h.toNat * 256 + l.toNat) ∧
  (∀ v : BitVec 16, be16 (v.extractLsb' 8 8) (v.extractLsb' 0 8) = v)

/-! ### Invariants and runs -/

/-- Every step keeps the invariant: FB[0] = 0x00, FSTAT bit 0 reads 0, and without VALID the frame is the reset one. -/
def Obligations.StepKeepsInvariant : Prop :=
  ∀ s t : State, s.Inv → step s = .next t → t.Inv

/-- The invariant holds after reset. -/
def Obligations.ResetHasInvariant : Prop := State.reset.Inv

/-- Every run goes on, whatever the host presents: after n steps from any state there is a next state, the first n stimuli of
the host's list (the model's, log entry 1), or all of them where it holds fewer, are taken off, and the invariant, if it held,
still holds; no fault ends the run (R12, R114). R12 ends the run with the list: the steps past its end are idle ones, the model's
choice, log entry 3. -/
def Obligations.EveryRunGoesOn : Prop :=
  ∀ (n : Nat) (s : State), ∃ t : State,
    afterSteps n s = some t ∧ t.pending = s.pending.drop n ∧ (s.Inv → t.Inv)

/-- Instances share nothing: when one steps, it makes its own step and every other one keeps its state (R43). -/
def Obligations.InstancesShareNothing : Prop :=
  ∀ (k : Nat) (system : List State), (stepAt k system).length = system.length ∧
    (∀ j, j ≠ k → (stepAt k system)[j]? = system[j]?) ∧
    (∀ s, system[k]? = some s → ∃ t, step s = .next t ∧ (stepAt k system)[k]? = some t)
end

