-- ==== Sys2Proof/Laws/Operands.lean ====
section
/-! SUPPORT. What the byte vectors, the byte order, the code tables and the frame layouts do, each said once. -/

namespace Sys2Proof.Machine

/-! ### Byte vectors -/

theorem byteAt_eq_getElem {n : Nat} (v : Bytes n) (j : Nat) (h : j < n) : byteAt v j = v[j] := by
  simp [byteAt, h]

@[simp] theorem byteAt_tabulate {n : Nat} (f : Nat → Byte) (j : Nat) (h : j < n) : byteAt (tabulate n f) j = f j := by
  simp [byteAt, tabulate, h]

/-- Two vectors are equal if every byte is. -/
theorem bytes_ext {n : Nat} {v w : Bytes n} (h : ∀ j, j < n → byteAt v j = byteAt w j) : v = w :=
  Vector.ext fun j hj => by simpa [byteAt, hj] using h j hj

@[simp] theorem byteAt_slice {m n : Nat} (v : Bytes m) (a j : Nat) (h : j < n) :
    byteAt (slice v a n) j = byteAt v (a + j) := by
  simp [slice, h]

/-- Two tabulated vectors are equal if the functions agree below the length. -/
theorem tabulate_congr {n : Nat} {f g : Nat → Byte} (h : ∀ j, j < n → f j = g j) : tabulate n f = tabulate n g :=
  bytes_ext fun j hj => by simp [hj, h j hj]

/-- Reading every byte of a vector into a new one changes nothing. -/
@[simp] theorem slice_zero {n : Nat} (v : Bytes n) : slice v 0 n = v :=
  bytes_ext fun j hj => by simp [hj]

/-! ### Byte order (20_memory.md R32) -/

theorem be16_toNat (h l : Byte) : (be16 h l).toNat = h.toNat * 256 + l.toNat := by
  have hh := h.isLt
  have hl := l.isLt
  have hor : be16 h l = h.setWidth 16 <<< 8 + l.setWidth 16 := by
    unfold be16
    refine (BitVec.add_eq_or_of_and_eq_zero _ _ ?_).symm
    ext i hi
    simp only [BitVec.getElem_and, BitVec.getElem_shiftLeft, BitVec.getElem_setWidth, BitVec.getElem_zero]
    by_cases h8 : i < 8
    · simp [h8]
    · simp [BitVec.getLsbD_of_ge l i (by omega)]
  rw [hor]
  simp only [BitVec.toNat_add, BitVec.toNat_shiftLeft, BitVec.toNat_setWidth, Nat.shiftLeft_eq]
  omega

@[simp] theorem be16_split (v : BitVec 16) : be16 (highByte v) (lowByte v) = v := by
  have hv := v.isLt
  apply BitVec.eq_of_toNat_eq
  rw [be16_toNat]
  simp only [highByte, lowByte, BitVec.extractLsb'_toNat, Nat.shiftRight_eq_div_pow]
  omega

theorem highByte_be16 (h l : Byte) : highByte (be16 h l) = h := by
  have hh := h.isLt
  have hl := l.isLt
  apply BitVec.eq_of_toNat_eq
  simp only [highByte, BitVec.extractLsb'_toNat, be16_toNat, Nat.shiftRight_eq_div_pow]
  omega

theorem lowByte_be16 (h l : Byte) : lowByte (be16 h l) = l := by
  have hh := h.isLt
  have hl := l.isLt
  apply BitVec.eq_of_toNat_eq
  simp only [lowByte, BitVec.extractLsb'_toNat, be16_toNat, Nat.shiftRight_eq_div_pow]
  omega

/-! ### The code tables (41_codes.md R63 to R66) -/

@[simp] theorem commandOfByte_commandByte (c : CommandCode) : commandOfByte (commandByte c) = some c := by
  cases c <;> decide

@[simp] theorem commandOfTag_commandTag (c : CommandCode) : commandOfTag (commandTag c) = some c := by
  cases c <;> decide

@[simp] theorem errorOfByte_errorByte (e : ErrorCode) : errorOfByte (errorByte e) = some e := by
  cases e <;> decide

@[simp] theorem errorOfTag_errorTag (e : ErrorCode) : errorOfTag (errorTag e) = some e := by
  cases e <;> decide

/-- A byte that decodes to a command is that command's wire byte. -/
theorem commandByte_of_commandOfByte {b : Byte} {c : CommandCode} (h : commandOfByte b = some c) : commandByte c = b := by
  simpa [commandOfByte] using List.find?_some h

/-- A byte that decodes to an error is that error's wire byte. -/
theorem errorByte_of_errorOfByte {b : Byte} {e : ErrorCode} (h : errorOfByte b = some e) : errorByte e = b := by
  simpa [errorOfByte] using List.find?_some h

/-! ### The frame layouts (20_memory.md R28, R29, R30) -/

@[simp] theorem byteAt_initFrame_rid (cid : Bytes 4) (t : Byte) (size : BitVec 16) (d : Nat → Byte) :
    byteAt (initFrame cid t size d) 0 = 0 := by simp [initFrame]

@[simp] theorem byteAt_initFrame_cid (cid : Bytes 4) (t : Byte) (size : BitVec 16) (d : Nat → Byte) (i : Nat) (h : i < 4) :
    byteAt (initFrame cid t size d) (1 + i) = byteAt cid i := by
  simp [initFrame, show 1 + i < 65 by omega, show 1 + i < 5 by omega]

@[simp] theorem byteAt_initFrame_type (cid : Bytes 4) (t : Byte) (size : BitVec 16) (d : Nat → Byte) :
    byteAt (initFrame cid t size d) 5 = t := by simp [initFrame]

@[simp] theorem byteAt_initFrame_bcnt_high (cid : Bytes 4) (t : Byte) (size : BitVec 16) (d : Nat → Byte) :
    byteAt (initFrame cid t size d) 6 = highByte size := by simp [initFrame]

@[simp] theorem byteAt_initFrame_bcnt_low (cid : Bytes 4) (t : Byte) (size : BitVec 16) (d : Nat → Byte) :
    byteAt (initFrame cid t size d) 7 = lowByte size := by simp [initFrame]

@[simp] theorem byteAt_initFrame_data (cid : Bytes 4) (t : Byte) (size : BitVec 16) (d : Nat → Byte) (j : Nat) (h : j < 57) :
    byteAt (initFrame cid t size d) (8 + j) = d j := by
  simp [initFrame, show 8 + j < 65 by omega, show ¬ 8 + j < 5 by omega, show 8 + j ≠ 5 by omega,
    show 8 + j ≠ 6 by omega]

@[simp] theorem byteAt_contFrame_rid (cid : Bytes 4) (t : Byte) (d : Nat → Byte) :
    byteAt (contFrame cid t d) 0 = 0 := by simp [contFrame]

@[simp] theorem byteAt_contFrame_cid (cid : Bytes 4) (t : Byte) (d : Nat → Byte) (i : Nat) (h : i < 4) :
    byteAt (contFrame cid t d) (1 + i) = byteAt cid i := by
  simp [contFrame, show 1 + i < 65 by omega, show 1 + i < 5 by omega]

@[simp] theorem byteAt_contFrame_type (cid : Bytes 4) (t : Byte) (d : Nat → Byte) :
    byteAt (contFrame cid t d) 5 = t := by simp [contFrame]

@[simp] theorem byteAt_contFrame_data (cid : Bytes 4) (t : Byte) (d : Nat → Byte) (j : Nat) (h : j < 59) :
    byteAt (contFrame cid t d) (6 + j) = d j := by
  simp [contFrame, show 6 + j < 65 by omega, show ¬ 6 + j < 5 by omega, show 6 + j ≠ 5 by omega]

@[simp] theorem byteAt_frameOfBody_rid (body : Bytes 64) : byteAt (frameOfBody body) 0 = 0 := by simp [frameOfBody]

@[simp] theorem byteAt_frameOfBody (body : Bytes 64) (k : Nat) (h : k < 64) :
    byteAt (frameOfBody body) (k + 1) = byteAt body k := by
  simp [frameOfBody, show k + 1 < 65 by omega]

@[simp] theorem byteAt_bodyOf (v : Bytes 65) (k : Nat) (h : k < 64) : byteAt (bodyOf v) k = byteAt v (1 + k) := by
  simp [bodyOf, h]

/-- A frame whose report-ID slot is 0x00 comes back from its own body. -/
theorem frameOfBody_bodyOf {v : Bytes 65} (h : byteAt v 0 = 0) : frameOfBody (bodyOf v) = v := by
  refine bytes_ext fun j hj => ?_
  rcases j with _ | k
  · simp [h]
  · rw [byteAt_frameOfBody _ _ (by omega), byteAt_bodyOf _ _ (by omega), Nat.add_comm]

/-- A body comes back from the frame it makes. -/
@[simp] theorem bodyOf_frameOfBody (body : Bytes 64) : bodyOf (frameOfBody body) = body :=
  bytes_ext fun k hk => by rw [byteAt_bodyOf _ _ hk, Nat.add_comm, byteAt_frameOfBody _ _ hk]

/-- The type byte of the frame a body makes is body byte 4 (00_scope.md R11). -/
theorem typeField_frameOfBody (body : Bytes 64) : typeField (frameOfBody body) = byteAt body 4 :=
  byteAt_frameOfBody body 4 (by omega)

/-! ### The named fields of an assembled frame, and the frame assembled from its fields -/

@[simp] theorem cidField_initFrame (cid : Bytes 4) (t : Byte) (size : BitVec 16) (d : Nat → Byte) :
    cidField (initFrame cid t size d) = cid :=
  bytes_ext fun j hj => by simp [cidField, hj]

@[simp] theorem typeField_initFrame (cid : Bytes 4) (t : Byte) (size : BitVec 16) (d : Nat → Byte) :
    typeField (initFrame cid t size d) = t := by simp [typeField]

@[simp] theorem bcntField_initFrame (cid : Bytes 4) (t : Byte) (size : BitVec 16) (d : Nat → Byte) :
    bcntField (initFrame cid t size d) = size := by simp [bcntField]

@[simp] theorem initDataField_initFrame (cid : Bytes 4) (t : Byte) (size : BitVec 16) (d : Bytes 57) :
    initDataField (initFrame cid t size (byteAt d)) = d :=
  bytes_ext fun j hj => by simp [initDataField, hj]

@[simp] theorem cidField_contFrame (cid : Bytes 4) (t : Byte) (d : Nat → Byte) : cidField (contFrame cid t d) = cid :=
  bytes_ext fun j hj => by simp [cidField, hj]

@[simp] theorem typeField_contFrame (cid : Bytes 4) (t : Byte) (d : Nat → Byte) : typeField (contFrame cid t d) = t := by
  simp [typeField]

@[simp] theorem contDataField_contFrame (cid : Bytes 4) (t : Byte) (d : Bytes 59) :
    contDataField (contFrame cid t (byteAt d)) = d :=
  bytes_ext fun j hj => by simp [contDataField, hj]

/-- Which field of the init layout an offset is in. -/
theorem init_offset_cases {a : Nat} (h : a < 65) :
    a = 0 ∨ (∃ i, a = 1 + i ∧ i < 4) ∨ a = 5 ∨ a = 6 ∨ a = 7 ∨ ∃ j, a = 8 + j ∧ j < 57 := by
  rcases (by omega : a = 0 ∨ (1 ≤ a ∧ a < 5) ∨ a = 5 ∨ a = 6 ∨ a = 7 ∨ 8 ≤ a) with h0 | h1 | h5 | h6 | h7 | h8
  · exact .inl h0
  · exact .inr (.inl ⟨a - 1, by omega, by omega⟩)
  · exact .inr (.inr (.inl h5))
  · exact .inr (.inr (.inr (.inl h6)))
  · exact .inr (.inr (.inr (.inr (.inl h7))))
  · exact .inr (.inr (.inr (.inr (.inr ⟨a - 8, by omega, by omega⟩))))

/-- Which field of the continuation layout an offset is in. -/
theorem cont_offset_cases {a : Nat} (h : a < 65) :
    a = 0 ∨ (∃ i, a = 1 + i ∧ i < 4) ∨ a = 5 ∨ ∃ j, a = 6 + j ∧ j < 59 := by
  rcases (by omega : a = 0 ∨ (1 ≤ a ∧ a < 5) ∨ a = 5 ∨ 6 ≤ a) with h0 | h1 | h5 | h6
  · exact .inl h0
  · exact .inr (.inl ⟨a - 1, by omega, by omega⟩)
  · exact .inr (.inr (.inl h5))
  · exact .inr (.inr (.inr ⟨a - 6, by omega, by omega⟩))

/-- A frame with report-ID slot 0x00 is assembled again from its init fields. -/
theorem initFrame_of_fields {v : Bytes 65} (h : byteAt v 0 = 0) :
    initFrame (cidField v) (typeField v) (bcntField v) (byteAt (initDataField v)) = v := by
  refine bytes_ext fun a ha => ?_
  rcases init_offset_cases ha with
    rfl | ⟨i, rfl, hi⟩ | rfl | rfl | rfl | ⟨j, rfl, hj⟩
  · rw [byteAt_initFrame_rid, h]
  · rw [byteAt_initFrame_cid _ _ _ _ _ hi, cidField, byteAt_slice _ _ _ hi]; rfl
  · rw [byteAt_initFrame_type]; rfl
  · rw [byteAt_initFrame_bcnt_high, bcntField, highByte_be16]; rfl
  · rw [byteAt_initFrame_bcnt_low, bcntField, lowByte_be16]; rfl
  · rw [byteAt_initFrame_data _ _ _ _ _ hj, initDataField, byteAt_slice _ _ _ hj]; rfl

/-- A frame with report-ID slot 0x00 is assembled again from its continuation fields. -/
theorem contFrame_of_fields {v : Bytes 65} (h : byteAt v 0 = 0) :
    contFrame (cidField v) (typeField v) (byteAt (contDataField v)) = v := by
  refine bytes_ext fun a ha => ?_
  rcases cont_offset_cases ha with
    rfl | ⟨i, rfl, hi⟩ | rfl | ⟨j, rfl, hj⟩
  · rw [byteAt_contFrame_rid, h]
  · rw [byteAt_contFrame_cid _ _ _ _ hi, cidField, byteAt_slice _ _ _ hi]; rfl
  · rw [byteAt_contFrame_type]; rfl
  · rw [byteAt_contFrame_data _ _ _ _ hj, contDataField, byteAt_slice _ _ _ hj]; rfl

/-! ### Type bytes (30_encoding.md R49, R50) -/

@[simp] theorem kindOf_initTypeByte (b : Byte) : kindOf (initTypeByte b) = .init := by
  simp [kindOf, initTypeByte]

@[simp] theorem kindOf_setWidth_seven (c : BitVec 7) : kindOf (c.setWidth 8) = .cont := by
  simp [kindOf]

@[simp] theorem lowSeven_initTypeByte (c : BitVec 7) : lowSeven (initTypeByte (c.setWidth 8)) = c := by
  revert c; decide

@[simp] theorem lowSeven_setWidth (c : BitVec 7) : lowSeven (c.setWidth 8) = c := by
  revert c; decide

/-- A type byte with bit 7 set is the marker bit and its low seven bits. -/
theorem initTypeByte_lowSeven {b : Byte} (h : kindOf b = .init) : initTypeByte ((lowSeven b).setWidth 8) = b := by
  revert b; decide

/-- A type byte with bit 7 clear is its low seven bits. -/
theorem setWidth_lowSeven {b : Byte} (h : kindOf b = .cont) : (lowSeven b).setWidth 8 = b := by
  revert b; decide

end Sys2Proof.Machine
end

