-- ==== Sys2Proof/Laws/State.lean ====
section
/-! SUPPORT. One lemma per field per update of State, each true by rfl, so that no proof unfolds a record update. -/

namespace Sys2Proof.Machine

@[simp] theorem State.respond_fb (s : State) (r : Response) : (s.respond r).fb = s.fb := rfl
@[simp] theorem State.respond_valid (s : State) (r : Response) : (s.respond r).valid = s.valid := rfl
@[simp] theorem State.respond_kind (s : State) (r : Response) : (s.respond r).kind = s.kind := rfl
@[simp] theorem State.respond_fstat (s : State) (r : Response) : (s.respond r).fstat = s.fstat := rfl
@[simp] theorem State.respond_pending (s : State) (r : Response) : (s.respond r).pending = s.pending := rfl
@[simp] theorem State.respond_response (s : State) (r : Response) : (s.respond r).response = some r := rfl

@[simp] theorem State.load_fb (s : State) (k : Kind) (v : Bytes 65) : (s.load k v).fb = v := rfl
@[simp] theorem State.load_valid (s : State) (k : Kind) (v : Bytes 65) : (s.load k v).valid = true := rfl
@[simp] theorem State.load_kind (s : State) (k : Kind) (v : Bytes 65) : (s.load k v).kind = k := rfl
@[simp] theorem State.load_fstat (s : State) (k : Kind) (v : Bytes 65) : (s.load k v).fstat = s.fstat := rfl
@[simp] theorem State.load_pending (s : State) (k : Kind) (v : Bytes 65) : (s.load k v).pending = s.pending := rfl
@[simp] theorem State.load_response (s : State) (k : Kind) (v : Bytes 65) : (s.load k v).response = s.response := rfl

@[simp] theorem State.noteAlias_fb (s : State) (c : BitVec 4) : (s.noteAlias c).fb = s.fb := rfl
@[simp] theorem State.noteAlias_valid (s : State) (c : BitVec 4) : (s.noteAlias c).valid = s.valid := rfl
@[simp] theorem State.noteAlias_kind (s : State) (c : BitVec 4) : (s.noteAlias c).kind = s.kind := rfl
@[simp] theorem State.noteAlias_fstat (s : State) (c : BitVec 4) : (s.noteAlias c).fstat = fstatAlias s.fstat c := rfl
@[simp] theorem State.noteAlias_pending (s : State) (c : BitVec 4) : (s.noteAlias c).pending = s.pending := rfl
@[simp] theorem State.noteAlias_response (s : State) (c : BitVec 4) : (s.noteAlias c).response = s.response := rfl

@[simp] theorem State.afterRaise_fb (s : State) (f : FrameFault) : (s.afterRaise f).fb = s.fb := rfl
@[simp] theorem State.afterRaise_valid (s : State) (f : FrameFault) : (s.afterRaise f).valid = s.valid := rfl
@[simp] theorem State.afterRaise_kind (s : State) (f : FrameFault) : (s.afterRaise f).kind = s.kind := rfl
@[simp] theorem State.afterRaise_fstat (s : State) (f : FrameFault) : (s.afterRaise f).fstat = fstatSet s.fstat f.code.toNat := rfl
@[simp] theorem State.afterRaise_pending (s : State) (f : FrameFault) : (s.afterRaise f).pending = s.pending := rfl
@[simp] theorem State.afterRaise_response (s : State) (f : FrameFault) : (s.afterRaise f).response = some (faultResponse f) := rfl

@[simp] theorem State.withProgram_fb (s : State) (p : List Stimulus) : (s.withProgram p).fb = s.fb := rfl
@[simp] theorem State.withProgram_valid (s : State) (p : List Stimulus) : (s.withProgram p).valid = s.valid := rfl
@[simp] theorem State.withProgram_kind (s : State) (p : List Stimulus) : (s.withProgram p).kind = s.kind := rfl
@[simp] theorem State.withProgram_fstat (s : State) (p : List Stimulus) : (s.withProgram p).fstat = s.fstat := rfl
@[simp] theorem State.withProgram_pending (s : State) (p : List Stimulus) : (s.withProgram p).pending = p := rfl
@[simp] theorem State.withProgram_response (s : State) (p : List Stimulus) : (s.withProgram p).response = s.response := rfl

@[simp] theorem State.afterReset_fb (rest : List Stimulus) : (State.afterReset rest).fb = State.reset.fb := rfl
@[simp] theorem State.afterReset_valid (rest : List Stimulus) : (State.afterReset rest).valid = State.reset.valid := rfl
@[simp] theorem State.afterReset_kind (rest : List Stimulus) : (State.afterReset rest).kind = State.reset.kind := rfl
@[simp] theorem State.afterReset_fstat (rest : List Stimulus) : (State.afterReset rest).fstat = State.reset.fstat := rfl
@[simp] theorem State.afterReset_pending (rest : List Stimulus) : (State.afterReset rest).pending = rest := rfl
@[simp] theorem State.afterReset_response (rest : List Stimulus) : (State.afterReset rest).response = State.reset.response := rfl

@[simp] theorem State.reset_valid : State.reset.valid = false := rfl
@[simp] theorem State.reset_kind : State.reset.kind = .init := rfl
@[simp] theorem State.reset_fstat : State.reset.fstat = 0 := rfl
@[simp] theorem State.reset_pending : State.reset.pending = [] := rfl
@[simp] theorem State.reset_response : State.reset.response = none := rfl

/-- The checks before a read see only VALID and KIND, not the list the host keeps. -/
@[simp] theorem frameCheck_pending (want : Option Kind) (s : State) (p : List Stimulus) :
    frameCheck want { s with pending := p } = frameCheck want s := rfl

/-! ### Response ports -/

@[simp] theorem faultResponse_ok_o (f : FrameFault) : (faultResponse f).ok_o = 0 := rfl
@[simp] theorem faultResponse_fault_o (f : FrameFault) : (faultResponse f).fault_o = f.code := rfl
@[simp] theorem faultResponse_info (f : FrameFault) : (faultResponse f).info = some f := rfl
@[simp] theorem okResponse_ok_o : okResponse.ok_o = 1 := rfl
@[simp] theorem okResponse_fault_o : okResponse.fault_o = 0 := rfl

end Sys2Proof.Machine
end

