-- ==== Sys2Proof/Laws/Ops.lean ====
section
/-! SUPPORT. For each shared operation of Machine/Ops.lean, one lemma that says everything it can do. -/

namespace Sys2Proof.Machine

/-- `raise` answers exactly the state after the fault. -/
theorem raise_eq_next {f : FrameFault} {s t : State} : raise f s = .next t ↔ t = s.afterRaise f := by
  simp [raise, eq_comm]

/-- Building a frame: the fault where the payload is too long, else the state built. -/
theorem buildFrame_cases {limit : Nat} {plen : BitVec 6} {built s t : State}
    (h : buildFrame limit plen built s = .next t) :
    (limit < plen.toNat ∧ t = s.afterRaise (.payloadTooLarge plen)) ∨ (plen.toNat ≤ limit ∧ t = built) := by
  unfold buildFrame at h
  split at h
  · exact .inl ⟨‹_›, raise_eq_next.mp h⟩
  · exact .inr ⟨by omega, (Host.Outcome.next.inj h).symm⟩

/-- Loading a body: the frame where the length is 64, else the fault. -/
theorem loadBody_cases {kind : Kind} {body : Bytes 64} {blen : BitVec 7} {answer : Response} {s t : State}
    (h : loadBody kind body blen answer s = .next t) :
    (blen.toNat = 64 ∧ t = (s.load kind (frameOfBody body)).respond answer) ∨
      (blen.toNat ≠ 64 ∧ t = s.afterRaise (.malformedFrame blen)) := by
  unfold loadBody at h
  split at h
  · exact .inl ⟨‹_›, (Host.Outcome.next.inj h).symm⟩
  · exact .inr ⟨‹_›, raise_eq_next.mp h⟩

/-- `REQUIRE_FRAME`: the three cases, VALID before KIND. -/
theorem frameCheck_cases (want : Option Kind) (s : State) :
    (s.valid = false ∧ frameCheck want s = some .noFrame) ∨
      (s.valid = true ∧ (∃ k, want = some k ∧ s.kind ≠ k) ∧ frameCheck want s = some (.kindMismatch s.kind)) ∨
      (s.valid = true ∧ (∀ k, want = some k → s.kind = k) ∧ frameCheck want s = none) := by
  cases hv : s.valid
  · exact .inl ⟨rfl, by simp [frameCheck, hv]⟩
  · rcases want with _ | k
    · exact .inr (.inr ⟨rfl, by simp, by simp [frameCheck, hv]⟩)
    · by_cases hk : s.kind = k
      · exact .inr (.inr ⟨rfl, by simp [hk], by simp [frameCheck, hv, hk]⟩)
      · exact .inr (.inl ⟨rfl, ⟨k, rfl, hk⟩, by simp [frameCheck, hv, hk]⟩)

/-- A read: a fault of `REQUIRE_FRAME`, or the response and nothing else. -/
theorem readFrame_cases {want : Option Kind} {answer : State → Response} {s t : State}
    (h : readFrame want answer s = .next t) :
    (∃ f, frameCheck want s = some f ∧ t = s.afterRaise f) ∨
      (frameCheck want s = none ∧ t = s.respond (answer s)) := by
  unfold readFrame at h
  split at h
  · exact .inl ⟨_, ‹_›, raise_eq_next.mp h⟩
  · exact .inr ⟨‹_›, (Host.Outcome.next.inj h).symm⟩

/-- Every fault's code is 1 to 6 (60_exceptions.md R102). -/
theorem FrameFault.code_range (f : FrameFault) : 1 ≤ f.code.toNat ∧ f.code.toNat ≤ 6 := by
  cases f <;> simp [FrameFault.code]

/-- Setting an FSTAT bit clears none (10_state.md R19). -/
theorem fstatSet_keeps (fstat : BitVec 8) (n : Nat) : fstat &&& fstatSet fstat n = fstat := by
  ext i hi
  simp only [fstatSet, BitVec.getElem_and, BitVec.getElem_or]
  cases fstat[i] <;> simp

/-- Setting a bit other than bit 0 leaves bit 0. -/
theorem fstatSet_bit0 (fstat : BitVec 8) (n : Nat) (h : 1 ≤ n) : (fstatSet fstat n).getLsbD 0 = fstat.getLsbD 0 := by
  simp [fstatSet, show 0 < n by omega]

end Sys2Proof.Machine
end

