-- ==== Sys2Proof/Laws/Exec.lean ====
section
/-! SUPPORT. What each shape of meaning answers on the operands it runs on, and what `exec` can do at all, said once. -/

namespace Sys2Proof.Machine

/-! ### The shared operations where no fault condition holds, and where one does -/

theorem buildFrame_of_fits {limit : Nat} {plen : BitVec 6} (built s : State) (h : plen.toNat ≤ limit) :
    buildFrame limit plen built s = .next built := if_neg (by omega)

theorem buildFrame_of_long {limit : Nat} {plen : BitVec 6} (built s : State) (h : limit < plen.toNat) :
    buildFrame limit plen built s = .next (s.afterRaise (.payloadTooLarge plen)) := if_pos h

theorem loadBody_of_length (kind : Kind) (body : Bytes 64) {blen : BitVec 7} (answer : Response) (s : State)
    (h : blen.toNat = 64) :
    loadBody kind body blen answer s = .next ((s.load kind (frameOfBody body)).respond answer) := if_pos h

theorem loadBody_of_other_length (kind : Kind) (body : Bytes 64) {blen : BitVec 7} (answer : Response) (s : State)
    (h : blen.toNat ≠ 64) : loadBody kind body blen answer s = .next (s.afterRaise (.malformedFrame blen)) := if_neg h

theorem readFrame_of_frame {want : Option Kind} (answer : State → Response) {s : State} (hv : s.valid = true)
    (hk : ∀ k, want = some k → s.kind = k) : readFrame want answer s = .next (s.respond (answer s)) := by
  rcases frameCheck_cases want s with ⟨h, -⟩ | ⟨-, ⟨k, h1, h2⟩, -⟩ | ⟨-, -, h⟩
  · simp [hv] at h
  · exact absurd (hk k h1) h2
  · simp [readFrame, h]

theorem readFrame_of_noFrame (want : Option Kind) (answer : State → Response) {s : State} (hv : s.valid = false) :
    readFrame want answer s = .next (s.afterRaise .noFrame) := by
  simp [readFrame, frameCheck, hv, raise]

theorem readFrame_of_mismatch {k : Kind} (answer : State → Response) {s : State} (hv : s.valid = true)
    (hk : s.kind ≠ k) : readFrame (some k) answer s = .next (s.afterRaise (.kindMismatch s.kind)) := by
  simp [readFrame, frameCheck, hv, hk, raise]

/-- A tag that names a variant sets no ALIAS, and a tag 10 to 15 sets it (10_state.md R19). -/
theorem fstatAlias_eq (fstat : BitVec 8) (cmd : BitVec 4) :
    fstatAlias fstat cmd = if 10 ≤ cmd.toNat then fstat ||| 0x80 else fstat := by
  have h : cmdAlias cmd = if 10 ≤ cmd.toNat then 1 else 0 := by revert cmd; decide
  unfold fstatAlias fstatSet
  rw [h]
  split <;> simp_all

/-! ### Every instruction -/

/-- What an instruction can leave of a state: the state after a fault; or, with a response that is ok, the state itself,
perhaps with ALIAS noted, perhaps with a frame loaded whose report-ID slot is 0x00. -/
def Answer (s t : State) : Prop :=
  (∃ f, t = s.afterRaise f) ∨
  (∃ r, r.isOk ∧ (t = s.respond r ∨ (∃ c, t = (s.noteAlias c).respond r) ∨
    (∃ k v, byteAt v 0 = 0x00 ∧ t = (s.load k v).respond r) ∨
    ∃ c k v, byteAt v 0 = 0x00 ∧ t = ((s.noteAlias c).load k v).respond r))

theorem answer_raise (f : FrameFault) (s : State) : ∃ t, raise f s = .next t ∧ Answer s t := ⟨_, rfl, .inl ⟨f, rfl⟩⟩

theorem answer_respond (r : Response) (h : r.isOk) (s : State) :
    ∃ t, Host.Outcome.next (s.respond r) = (.next t : Host.Outcome State Fault Refusal) ∧ Answer s t :=
  ⟨_, rfl, .inr ⟨r, h, .inl rfl⟩⟩

theorem answer_readFrame (want : Option Kind) (answer : State → Response) (h : ∀ s, (answer s).isOk) (s : State) :
    ∃ t, readFrame want answer s = .next t ∧ Answer s t := by
  unfold readFrame
  split
  · exact answer_raise _ s
  · exact answer_respond _ (h s) s

theorem answer_loadBody (kind : Kind) (body : Bytes 64) (blen : BitVec 7) (answer : Response) (h : answer.isOk) (s : State) :
    ∃ t, loadBody kind body blen answer s = .next t ∧ Answer s t := by
  unfold loadBody
  split
  · exact ⟨_, rfl, .inr ⟨answer, h, .inr (.inr (.inl ⟨kind, frameOfBody body, byteAt_frameOfBody_rid body, rfl⟩))⟩⟩
  · exact answer_raise _ s

theorem answer_buildFrame (limit : Nat) (plen : BitVec 6) (built s : State) (h : Answer s built) :
    ∃ t, buildFrame limit plen built s = .next t ∧ Answer s t := by
  unfold buildFrame
  split
  · exact answer_raise _ s
  · exact ⟨built, rfl, h⟩

/-- Every instruction answers a next state, and one of these. -/
theorem exec_answer (i : Instr) (s : State) : ∃ t, exec i s = .next t ∧ Answer s t := by
  cases i with
  | cmdEnc cmd => exact ⟨_, rfl, .inr ⟨_, ⟨rfl, rfl⟩, .inr (.inl ⟨cmd, rfl⟩)⟩⟩
  | cmdDec byte => exact answer_respond _ ⟨rfl, rfl⟩ s
  | errEnc err =>
    simp only [exec, execErrEnc]
    split
    · exact answer_respond _ ⟨rfl, rfl⟩ s
    · exact answer_raise _ s
  | errDec byte => exact answer_respond _ ⟨rfl, rfl⟩ s
  | initNew cid cmd size pay plen =>
    exact answer_buildFrame _ _ _ s
      (.inr ⟨_, ⟨rfl, rfl⟩, .inr (.inr (.inr ⟨cmd, _, _, byteAt_initFrame_rid _ _ _ _, rfl⟩))⟩)
  | initFromWire body blen =>
    simp only [exec, execInitFromWire]
    exact answer_loadBody _ _ _ _ ⟨rfl, rfl⟩ s
  | initToWire =>
    simp only [exec, execInitToWire]
    exact answer_readFrame _ _ (fun _ => ⟨rfl, rfl⟩) s
  | initCid =>
    simp only [exec, execInitCid]
    exact answer_readFrame _ _ (fun _ => ⟨rfl, rfl⟩) s
  | initCmd =>
    simp only [exec, execInitCmd]
    exact answer_readFrame _ _ (fun _ => ⟨rfl, rfl⟩) s
  | initSize =>
    simp only [exec, execInitSize]
    exact answer_readFrame _ _ (fun _ => ⟨rfl, rfl⟩) s
  | initPayload =>
    simp only [exec, execInitPayload]
    exact answer_readFrame _ _ (fun _ => ⟨rfl, rfl⟩) s
  | contNew cid seq pay plen =>
    exact answer_buildFrame _ _ _ s
      (.inr ⟨_, ⟨rfl, rfl⟩, .inr (.inr (.inl ⟨_, _, byteAt_contFrame_rid _ _ _, rfl⟩))⟩)
  | contFromWire body blen =>
    simp only [exec, execContFromWire]
    exact answer_loadBody _ _ _ _ ⟨rfl, rfl⟩ s
  | contToWire =>
    simp only [exec, execContToWire]
    exact answer_readFrame _ _ (fun _ => ⟨rfl, rfl⟩) s
  | contCid =>
    simp only [exec, execContCid]
    exact answer_readFrame _ _ (fun _ => ⟨rfl, rfl⟩) s
  | contSeq =>
    simp only [exec, execContSeq]
    exact answer_readFrame _ _ (fun _ => ⟨rfl, rfl⟩) s
  | contPayload =>
    simp only [exec, execContPayload]
    exact answer_readFrame _ _ (fun _ => ⟨rfl, rfl⟩) s
  | classify body blen =>
    simp only [exec, execClassify]
    split
    · exact answer_respond _ ⟨rfl, rfl⟩ s
    · exact answer_raise _ s
  | rxDemux body blen =>
    simp only [exec, execRxDemux, demuxBody]
    exact answer_loadBody _ _ _ _ ⟨rfl, rfl⟩ s
  | txMux =>
    simp only [exec, execTxMux]
    exact answer_readFrame _ _ (fun _ => ⟨rfl, rfl⟩) s
  | frameInit cid command size data =>
    simp only [exec, execFrameInit, presentReport, demuxBody]
    exact answer_loadBody _ _ _ _ ⟨rfl, rfl⟩ s
  | frameCont cid seq data =>
    simp only [exec, execFrameCont, presentReport, demuxBody]
    exact answer_loadBody _ _ _ _ ⟨rfl, rfl⟩ s
  | bodyInit cid command size data =>
    simp only [exec, execBodyInit, demuxBody]
    exact answer_loadBody _ _ _ _ ⟨rfl, rfl⟩ s
  | bodyCont cid seq data =>
    simp only [exec, execBodyCont, demuxBody]
    exact answer_loadBody _ _ _ _ ⟨rfl, rfl⟩ s
  | reserved04 | reserved05 | reserved06 | reserved07 | reserved0F | reserved15 | reserved17 | reserved1B | reserved1C
  | reserved1D | reserved1E | reserved1F => exact answer_raise _ s
  | cmdInvalid | cmdPing | cmdMsg | cmdLock | cmdInit | cmdWink | cmdCbor | cmdCancel | cmdKeepalive | cmdError =>
    exact answer_respond _ ⟨rfl, rfl⟩ s
  | errInvalidCmd | errInvalidPar | errInvalidLen | errInvalidSeq | errMsgTimeout | errChannelBusy | errLockRequired
  | errNa | errOther => exact answer_respond _ ⟨rfl, rfl⟩ s
  | faultPayloadTooLarge plen => exact answer_raise _ s
  | faultMalformedFrame blen => exact answer_raise _ s
  | faultKindMismatch kind => exact answer_raise _ s
  | faultBadOp op => exact answer_raise _ s
  | faultBadTag err => exact answer_raise _ s
  | faultNoFrame => exact answer_raise _ s
  | kindInit | kindCont => exact answer_respond _ ⟨rfl, rfl⟩ s

end Sys2Proof.Machine
end

