-- ==== Sys2Proof/Laws/PerInstr.lean ====
section
/-! SUPPORT. Per-instruction lemmas: the word the encoder writes has the format that the opcode table's column gives the
row. -/

namespace Sys2Proof.Laws.EncodeFormat

/-- The row's format in spec/opcode_table.json. -/
def tableFormat : Instr → Format
  | .cmdEnc _ => .op
  | .cmdDec _ => .op
  | .errEnc _ => .op
  | .errDec _ => .op
  | .initNew _ _ _ _ _ => .op
  | .initFromWire _ _ => .op
  | .initToWire => .op
  | .initCid => .op
  | .initCmd => .op
  | .initSize => .op
  | .initPayload => .op
  | .contNew _ _ _ _ => .op
  | .contFromWire _ _ => .op
  | .contToWire => .op
  | .contCid => .op
  | .contSeq => .op
  | .contPayload => .op
  | .classify _ _ => .op
  | .rxDemux _ _ => .op
  | .txMux => .op
  | .reserved04 => .op
  | .reserved05 => .op
  | .reserved06 => .op
  | .reserved07 => .op
  | .reserved0F => .op
  | .reserved15 => .op
  | .reserved17 => .op
  | .reserved1B => .op
  | .reserved1C => .op
  | .reserved1D => .op
  | .reserved1E => .op
  | .reserved1F => .op
  | .frameInit _ _ _ _ => .wire
  | .frameCont _ _ _ => .wire
  | .bodyInit _ _ _ _ => .wire
  | .bodyCont _ _ _ => .wire
  | .cmdInvalid => .cmdByte
  | .cmdPing => .cmdByte
  | .cmdMsg => .cmdByte
  | .cmdLock => .cmdByte
  | .cmdInit => .cmdByte
  | .cmdWink => .cmdByte
  | .cmdCbor => .cmdByte
  | .cmdCancel => .cmdByte
  | .cmdKeepalive => .cmdByte
  | .cmdError => .cmdByte
  | .errInvalidCmd => .errByte
  | .errInvalidPar => .errByte
  | .errInvalidLen => .errByte
  | .errInvalidSeq => .errByte
  | .errMsgTimeout => .errByte
  | .errChannelBusy => .errByte
  | .errLockRequired => .errByte
  | .errNa => .errByte
  | .errOther => .errByte
  | .faultPayloadTooLarge _ => .faultCode
  | .faultMalformedFrame _ => .faultCode
  | .faultNoFrame => .faultCode
  | .faultKindMismatch _ => .faultCode
  | .faultBadOp _ => .faultCode
  | .faultBadTag _ => .faultCode
  | .kindInit => .kindBit
  | .kindCont => .kindBit

/-- The encoder writes a word of the row's own format. -/
def Statement (i : Instr) : Prop := (encode i).format = tableFormat i

theorem cmdEnc (cmd : BitVec 4) : Statement (.cmdEnc cmd) := rfl
theorem cmdDec (byte : Byte) : Statement (.cmdDec byte) := rfl
theorem errEnc (err : BitVec 4) : Statement (.errEnc err) := rfl
theorem errDec (byte : Byte) : Statement (.errDec byte) := rfl
theorem initNew (cid : Bytes 4) (cmd : BitVec 4) (size : BitVec 16) (pay : Bytes 59) (plen : BitVec 6) : Statement (.initNew cid cmd size pay plen) := rfl
theorem initFromWire (body : Bytes 64) (blen : BitVec 7) : Statement (.initFromWire body blen) := rfl
theorem initToWire : Statement .initToWire := rfl
theorem initCid : Statement .initCid := rfl
theorem initCmd : Statement .initCmd := rfl
theorem initSize : Statement .initSize := rfl
theorem initPayload : Statement .initPayload := rfl
theorem contNew (cid : Bytes 4) (seq : Byte) (pay : Bytes 59) (plen : BitVec 6) : Statement (.contNew cid seq pay plen) := rfl
theorem contFromWire (body : Bytes 64) (blen : BitVec 7) : Statement (.contFromWire body blen) := rfl
theorem contToWire : Statement .contToWire := rfl
theorem contCid : Statement .contCid := rfl
theorem contSeq : Statement .contSeq := rfl
theorem contPayload : Statement .contPayload := rfl
theorem classify (body : Bytes 64) (blen : BitVec 7) : Statement (.classify body blen) := rfl
theorem rxDemux (body : Bytes 64) (blen : BitVec 7) : Statement (.rxDemux body blen) := rfl
theorem txMux : Statement .txMux := rfl
theorem reserved04 : Statement .reserved04 := rfl
theorem reserved05 : Statement .reserved05 := rfl
theorem reserved06 : Statement .reserved06 := rfl
theorem reserved07 : Statement .reserved07 := rfl
theorem reserved0F : Statement .reserved0F := rfl
theorem reserved15 : Statement .reserved15 := rfl
theorem reserved17 : Statement .reserved17 := rfl
theorem reserved1B : Statement .reserved1B := rfl
theorem reserved1C : Statement .reserved1C := rfl
theorem reserved1D : Statement .reserved1D := rfl
theorem reserved1E : Statement .reserved1E := rfl
theorem reserved1F : Statement .reserved1F := rfl
theorem frameInit (cid : Bytes 4) (command : BitVec 7) (size : BitVec 16) (data : Bytes 57) : Statement (.frameInit cid command size data) := rfl
theorem frameCont (cid : Bytes 4) (seq : BitVec 7) (data : Bytes 59) : Statement (.frameCont cid seq data) := rfl
theorem bodyInit (cid : Bytes 4) (command : BitVec 7) (size : BitVec 16) (data : Bytes 57) : Statement (.bodyInit cid command size data) := rfl
theorem bodyCont (cid : Bytes 4) (seq : BitVec 7) (data : Bytes 59) : Statement (.bodyCont cid seq data) := rfl
theorem cmdInvalid : Statement .cmdInvalid := rfl
theorem cmdPing : Statement .cmdPing := rfl
theorem cmdMsg : Statement .cmdMsg := rfl
theorem cmdLock : Statement .cmdLock := rfl
theorem cmdInit : Statement .cmdInit := rfl
theorem cmdWink : Statement .cmdWink := rfl
theorem cmdCbor : Statement .cmdCbor := rfl
theorem cmdCancel : Statement .cmdCancel := rfl
theorem cmdKeepalive : Statement .cmdKeepalive := rfl
theorem cmdError : Statement .cmdError := rfl
theorem errInvalidCmd : Statement .errInvalidCmd := rfl
theorem errInvalidPar : Statement .errInvalidPar := rfl
theorem errInvalidLen : Statement .errInvalidLen := rfl
theorem errInvalidSeq : Statement .errInvalidSeq := rfl
theorem errMsgTimeout : Statement .errMsgTimeout := rfl
theorem errChannelBusy : Statement .errChannelBusy := rfl
theorem errLockRequired : Statement .errLockRequired := rfl
theorem errNa : Statement .errNa := rfl
theorem errOther : Statement .errOther := rfl
theorem faultPayloadTooLarge (plen : BitVec 6) : Statement (.faultPayloadTooLarge plen) := rfl
theorem faultMalformedFrame (blen : BitVec 7) : Statement (.faultMalformedFrame blen) := rfl
theorem faultNoFrame : Statement .faultNoFrame := rfl
theorem faultKindMismatch (kind : Kind) : Statement (.faultKindMismatch kind) := rfl
theorem faultBadOp (op : BitVec 5) : Statement (.faultBadOp op) := rfl
theorem faultBadTag (err : BitVec 4) : Statement (.faultBadTag err) := rfl
theorem kindInit : Statement .kindInit := rfl
theorem kindCont : Statement .kindCont := rfl

end Sys2Proof.Laws.EncodeFormat
end

