-- ==== Sys2Proof/Machine/Written.lean ====
section
/-! DEFINITION. The written form of a request and of a response (30_encoding.md R61), for test programs and reports. The
order of results in a response, and `0x` for bytes with decimal for other numbers, are the model's choice among the forms
R61 allows (log entry 18). -/

namespace Sys2Proof.Machine

/-- One hexadecimal digit. -/
def hexDigit (n : Nat) : String := "0123456789ABCDEF".toList[n]?.elim "?" fun c => c.toString

/-- A byte as a bare hexadecimal pair (R61). -/
def hexPair (b : Byte) : String := hexDigit (b.toNat / 16) ++ hexDigit (b.toNat % 16)

/-- A byte list in brackets, first byte first (R61). -/
def byteList (l : List Byte) : String := "[" ++ String.intercalate " " (l.map hexPair) ++ "]"

/-- The name of a command (30_encoding.md R51). -/
def commandName : CommandCode → String
  | .invalid => "Invalid"
  | .ping => "Ping"
  | .msg => "Msg"
  | .lock => "Lock"
  | .init => "Init"
  | .wink => "Wink"
  | .cbor => "Cbor"
  | .cancel => "Cancel"
  | .keepalive => "Keepalive"
  | .error => "Error"

/-- The name of an error (30_encoding.md R52). -/
def errorName : ErrorCode → String
  | .invalidCmd => "InvalidCmd"
  | .invalidPar => "InvalidPar"
  | .invalidLen => "InvalidLen"
  | .invalidSeq => "InvalidSeq"
  | .msgTimeout => "MsgTimeout"
  | .channelBusy => "ChannelBusy"
  | .lockRequired => "LockRequired"
  | .na => "NA"
  | .other => "Other"

/-- A command operand, by name or, for a tag that names no variant, by number (R61). -/
def commandText (t : BitVec 4) : String := (commandOfTag t).elim ("#" ++ toString t.toNat) commandName

/-- An error operand, by name or, for a tag that names no variant, by number (R61). -/
def errorText (t : BitVec 4) : String := (errorOfTag t).elim ("#" ++ toString t.toNat) errorName

/-- The name of a kind (30_encoding.md R56). -/
def kindText (b : BitVec 1) : String := if b = 0 then "INIT" else "CONT"

/-- The payload a request lists: the bytes `plen` counts, and `plen` itself where the port holds fewer (R61). -/
def payloadText (pay : Bytes 59) (plen : BitVec 6) : String :=
  " payload=" ++ byteList (pay.toList.take plen.toNat) ++
    (if Config.contDataLen < plen.toNat then " plen=" ++ toString plen.toNat else "")

/-- A body, with its length where it is not the default 64 (R61). -/
def bodyText (body : Bytes 64) (blen : BitVec 7) : String :=
  " body=" ++ byteList body.toList ++
    (if blen.toNat = Config.bodyLen then "" else " blen=" ++ toString blen.toNat)

/-- The written form of a request, none for an instruction that is no request (R58, R61). A reserved code has no mnemonic
in R58 and is written by its number. -/
def writtenRequest : Instr → Option String
  | .cmdEnc cmd => some ("CMD_ENC cmd=" ++ commandText cmd)
  | .cmdDec b => some ("CMD_DEC byte=0x" ++ hexPair b)
  | .errEnc err => some ("ERR_ENC err=" ++ errorText err)
  | .errDec b => some ("ERR_DEC byte=0x" ++ hexPair b)
  | .initNew cid cmd size pay plen =>
    some ("INIT_NEW cid=" ++ byteList cid.toList ++ " cmd=" ++ commandText cmd ++ " size=" ++ toString size.toNat ++
      payloadText pay plen)
  | .initFromWire body blen => some ("INIT_FROM_WIRE" ++ bodyText body blen)
  | .initToWire => some "INIT_TO_WIRE"
  | .initCid => some "INIT_CID"
  | .initCmd => some "INIT_CMD"
  | .initSize => some "INIT_SIZE"
  | .initPayload => some "INIT_PAYLOAD"
  | .contNew cid seq pay plen =>
    some ("CONT_NEW cid=" ++ byteList cid.toList ++ " seq=" ++ toString seq.toNat ++ payloadText pay plen)
  | .contFromWire body blen => some ("CONT_FROM_WIRE" ++ bodyText body blen)
  | .contToWire => some "CONT_TO_WIRE"
  | .contCid => some "CONT_CID"
  | .contSeq => some "CONT_SEQ"
  | .contPayload => some "CONT_PAYLOAD"
  | .classify body blen => some ("CLASSIFY" ++ bodyText body blen)
  | .rxDemux body blen => some ("RX_DEMUX" ++ bodyText body blen)
  | .txMux => some "TX_MUX"
  | i =>
    match encode i with
    | .request r => some ("op=0x" ++ hexPair (r.op_i.setWidth 8))
    | _ => none

/-- The name of a fault (60_exceptions.md R102). -/
def faultName : FrameFault → String
  | .payloadTooLarge _ => "PayloadTooLarge"
  | .malformedFrame _ => "MalformedFrame"
  | .noFrame => "NoFrame"
  | .kindMismatch _ => "KindMismatch"
  | .badOp _ => "BadOp"
  | .badTag _ => "BadTag"

/-- One result of a response, if the operation names it (R61). -/
def resultText {α : Type} (name : String) (text : α → String) (port : Option α) : String :=
  port.elim "" fun v => " " ++ name ++ "=" ++ text v

/-- A data region, of which `paylen_o` bytes are meaningful (10_state.md R23). -/
def payText (r : Response) (pay : Bytes 59) : String :=
  byteList (pay.toList.take (r.paylen_o.elim 59 BitVec.toNat))

/-- The written form of a response (R61). -/
def writtenResponse (r : Response) : String :=
  match r.info with
  | some f => "-> fault " ++ faultName f
  | none =>
    "-> ok" ++ resultText "cmd" commandText r.cmd_o ++ resultText "err" errorText r.err_o ++
      resultText "size" (fun v => toString v.toNat) r.size_o ++ resultText "seq" (fun v => toString v.toNat) r.seq_o ++
      resultText "paylen" (fun v => toString v.toNat) r.paylen_o ++ resultText "pay" (payText r) r.pay_o ++
      resultText "byte" (fun b => "0x" ++ hexPair b) r.byte_o ++ resultText "found" (fun v => toString v.toNat) r.found_o ++
      resultText "alias" (fun v => toString v.toNat) r.alias_o ++ resultText "kind" kindText r.kind_o ++
      resultText "cid" (fun v : Bytes 4 => byteList v.toList) r.cid_o ++
      resultText "report" (fun v : Bytes 65 => byteList v.toList) r.report_o

end Sys2Proof.Machine
end

