-- ==== Sys2Proof/Tests/Slice0.lean ====
section
/-! SUPPORT. The model's own tests: ill-formed terms refused, words written out from the encoding tables, single steps with
the results 95_test_vectors.md gives, and for every statement with hypotheses a state and operands that meet them. -/

namespace Sys2Proof.Tests

open Sys2Proof.Machine

/-! ### Helpers -/

/-- The state after an instruction. -/
def after (i : Instr) (s : State) : State := (nextState (exec i s)).getD s

/-- One port of the response to an instruction. -/
def port {α : Type} (p : Response → Option α) (i : Instr) (s : State) : Option α := (after i s).response.bind p

/-- `ok_o` and `fault_o` of the response to an instruction. -/
def outcome (i : Instr) (s : State) : Option (BitVec 1 × BitVec 3) :=
  (after i s).response.map fun r => (r.ok_o, r.fault_o)

/-- A byte list on a port of `n` bytes, `fill` past its end. -/
def bytesOf (n : Nat) (fill : Byte) (l : List Byte) : Bytes n := tabulate n fun j => l.getD j fill

/-- The channel id of the worked examples (S9). -/
def cidOf1122 : Bytes 4 := bytesOf 4 0 [0x11, 0x22, 0x33, 0x44]

/-- The body of the example S1. -/
def bodyS1 : Bytes 64 := bytesOf 64 0 [0x11, 0x22, 0x33, 0x44, 0x81, 0x00, 0x01, 0xAA]

/-- The body of the example S2. -/
def bodyS2 : Bytes 64 := bytesOf 64 0 [0x11, 0x22, 0x33, 0x44, 0x03, 0xBB, 0xCC]

/-- The requests of the examples S1 and S2; payload bytes past `plen` are not zero, so that the zero fill is seen. -/
def newS1 : Instr := .initNew cidOf1122 1 1 (bytesOf 59 0xEE [0xAA]) 1
def newS2 : Instr := .contNew cidOf1122 3 (bytesOf 59 0xEE [0xBB, 0xCC]) 2

/-- The states after them. -/
def afterS1 : State := after newS1 State.reset
def afterS2 : State := after newS2 State.reset

/-- A request with an operation code and no operand. -/
def ask (op : BitVec 5) : Request := { zeroRequest with op_i := op }

/-! ### WellFormed refuses an ill-formed term of each check -/

theorem test_wf_refuses_payload_that_fits : (Instr.faultPayloadTooLarge 57).wf = false := by decide
theorem test_wf_refuses_body_of_64 : (Instr.faultMalformedFrame 64).wf = false := by decide
theorem test_wf_refuses_operation_code : (Instr.faultBadOp 0x00).wf = false := by decide
theorem test_wf_refuses_error_tag_8 : (Instr.faultBadTag 8).wf = false := by decide

/-! ### The decoder refuses by name -/

theorem test_decode_refuses_report_id :
    decode (.report (bytesOf 65 0 [0x01, 0x11, 0x22, 0x33, 0x44, 0x81])) = .error .reportIdNotZero := by decide
theorem test_decode_refuses_command_byte : decode (.cmdByte 0x7E) = .error .unknownCommandByte := by decide
theorem test_decode_refuses_error_byte : decode (.errByte 0x00) = .error .unknownErrorByte := by decide
theorem test_decode_refuses_fault_codes : decode (.faultCode 0 0) = .error .noSuchFault ∧
    decode (.faultCode 7 0) = .error .noSuchFault := by decide
theorem test_decode_refuses_fault_info : decode (.faultCode 1 57) = .error .faultInfo ∧
    decode (.faultCode 1 64) = .error .faultInfo ∧ decode (.faultCode 2 64) = .error .faultInfo ∧
    decode (.faultCode 3 1) = .error .faultInfo ∧ decode (.faultCode 4 2) = .error .faultInfo ∧
    decode (.faultCode 5 0x08) = .error .faultInfo ∧ decode (.faultCode 5 0x24) = .error .faultInfo ∧
    decode (.faultCode 6 8) = .error .faultInfo ∧ decode (.faultCode 6 16) = .error .faultInfo := by decide

/-! ### Words written out from 30_encoding.md, one for every constructor

An operation code is its group in bits 4 to 3 and its function in bits 2 to 0 (R57, R58). -/

theorem test_decode_cmdEnc : decode (.request { ask 0b00000 with cmd_i := 4 }) = .ok (.cmdEnc 4) := by decide
theorem test_decode_cmdDec : decode (.request { ask 0b00001 with byte_i := 0x3B }) = .ok (.cmdDec 0x3B) := by decide
theorem test_decode_errEnc : decode (.request { ask 0b00010 with err_i := 6 }) = .ok (.errEnc 6) := by decide
theorem test_decode_errDec : decode (.request { ask 0b00011 with byte_i := 0x7F }) = .ok (.errDec 0x7F) := by decide
theorem test_decode_initNew :
    decode (.request { ask 0b01000 with cid_i := cidOf1122, cmd_i := 6, size_i := 0x1234, pay_i := bytesOf 59 0 [0xAA], plen_i := 1 }) =
      .ok (.initNew cidOf1122 6 0x1234 (bytesOf 59 0 [0xAA]) 1) := by decide
theorem test_decode_initFromWire :
    decode (.request { ask 0b01001 with body_i := bodyS1, blen_i := 64 }) =
      .ok (.initFromWire bodyS1 64) := by decide
theorem test_decode_initToWire : decode (.request (ask 0b01010)) = .ok .initToWire := by decide
theorem test_decode_initCid : decode (.request (ask 0b01011)) = .ok .initCid := by decide
theorem test_decode_initCmd : decode (.request (ask 0b01100)) = .ok .initCmd := by decide
theorem test_decode_initSize : decode (.request (ask 0b01101)) = .ok .initSize := by decide
theorem test_decode_initPayload : decode (.request (ask 0b01110)) = .ok .initPayload := by decide
theorem test_decode_contNew :
    decode (.request { ask 0b10000 with cid_i := cidOf1122, seq_i := 0x83, pay_i := bytesOf 59 0 [0xBB], plen_i := 59 }) =
      .ok (.contNew cidOf1122 0x83 (bytesOf 59 0 [0xBB]) 59) := by decide
theorem test_decode_contFromWire :
    decode (.request { ask 0b10001 with body_i := bodyS2, blen_i := 63 }) =
      .ok (.contFromWire bodyS2 63) := by decide
theorem test_decode_contToWire : decode (.request (ask 0b10010)) = .ok .contToWire := by decide
theorem test_decode_contCid : decode (.request (ask 0b10011)) = .ok .contCid := by decide
theorem test_decode_contSeq : decode (.request (ask 0b10100)) = .ok .contSeq := by decide
theorem test_decode_contPayload : decode (.request (ask 0b10110)) = .ok .contPayload := by decide
theorem test_decode_classify :
    decode (.request { ask 0b11000 with body_i := bodyS2, blen_i := 64 }) =
      .ok (.classify bodyS2 64) := by decide
theorem test_decode_rxDemux :
    decode (.request { ask 0b11001 with body_i := bodyS1, blen_i := 127 }) =
      .ok (.rxDemux bodyS1 127) := by decide
theorem test_decode_txMux : decode (.request (ask 0b11010)) = .ok .txMux := by decide
theorem test_decode_reserved04 : decode (.request (ask 0b00100)) = .ok .reserved04 := by decide
theorem test_decode_reserved05 : decode (.request (ask 0b00101)) = .ok .reserved05 := by decide
theorem test_decode_reserved06 : decode (.request (ask 0b00110)) = .ok .reserved06 := by decide
theorem test_decode_reserved07 : decode (.request (ask 0b00111)) = .ok .reserved07 := by decide
theorem test_decode_reserved0F : decode (.request (ask 0b01111)) = .ok .reserved0F := by decide
theorem test_decode_reserved15 : decode (.request (ask 0b10101)) = .ok .reserved15 := by decide
theorem test_decode_reserved17 : decode (.request (ask 0b10111)) = .ok .reserved17 := by decide
theorem test_decode_reserved1B : decode (.request (ask 0b11011)) = .ok .reserved1B := by decide
theorem test_decode_reserved1C : decode (.request (ask 0b11100)) = .ok .reserved1C := by decide
theorem test_decode_reserved1D : decode (.request (ask 0b11101)) = .ok .reserved1D := by decide
theorem test_decode_reserved1E : decode (.request (ask 0b11110)) = .ok .reserved1E := by decide
theorem test_decode_reserved1F : decode (.request (ask 0b11111)) = .ok .reserved1F := by decide

/-- R46: byte 0 zero, the channel id, the marker bit over seven command bits, BCNT high then low, 57 data bytes. -/
theorem test_decode_frameInit :
    decode (.report (bytesOf 65 0 [0x00, 0x11, 0x22, 0x33, 0x44, 0b10000001, 0x12, 0x34, 0xAA])) =
      .ok (.frameInit cidOf1122 0b0000001 0x1234 (bytesOf 57 0 [0xAA])) := by decide

/-- R47: byte 0 zero, the channel id, bit 7 clear over seven sequence bits, 59 data bytes. -/
theorem test_decode_frameCont :
    decode (.report (bytesOf 65 0 [0x00, 0x11, 0x22, 0x33, 0x44, 0b01111111, 0xBB, 0xCC])) =
      .ok (.frameCont cidOf1122 0b1111111 (bytesOf 59 0 [0xBB, 0xCC])) := by decide

/-- R48: the same without byte 0. -/
theorem test_decode_bodyInit :
    decode (.body (bytesOf 64 0 [0x11, 0x22, 0x33, 0x44, 0b11111110, 0x12, 0x34, 0x55])) =
      .ok (.bodyInit cidOf1122 0b1111110 0x1234 (bytesOf 57 0 [0x55])) := by decide

/-- R48: the same without byte 0. -/
theorem test_decode_bodyCont :
    decode (.body (bytesOf 64 0 [0x11, 0x22, 0x33, 0x44, 0b00000011, 0xBB, 0xCC])) =
      .ok (.bodyCont cidOf1122 0b0000011 (bytesOf 59 0 [0xBB, 0xCC])) := by decide

/-- The ten command bytes (R51). -/
theorem test_decode_command_bytes :
    [0x00, 0x01, 0x03, 0x04, 0x06, 0x08, 0x10, 0x11, 0x3B, 0x3F].map (fun b => (decode (.cmdByte b)).toOption) =
      [Instr.cmdInvalid, .cmdPing, .cmdMsg, .cmdLock, .cmdInit, .cmdWink, .cmdCbor, .cmdCancel, .cmdKeepalive,
        .cmdError].map some := by decide

/-- The nine error bytes (R52). -/
theorem test_decode_error_bytes :
    [0x01, 0x02, 0x03, 0x04, 0x05, 0x06, 0x0A, 0x0B, 0x7F].map (fun b => (decode (.errByte b)).toOption) =
      [Instr.errInvalidCmd, .errInvalidPar, .errInvalidLen, .errInvalidSeq, .errMsgTimeout, .errChannelBusy,
        .errLockRequired, .errNa, .errOther].map some := by decide

/-- The six fault codes, each with the first `info` its cause allows (60_exceptions.md R102 to R108). -/
theorem test_decode_fault_codes :
    decode (.faultCode 1 58) = .ok (.faultPayloadTooLarge 58) ∧ decode (.faultCode 2 63) = .ok (.faultMalformedFrame 63) ∧
    decode (.faultCode 3 0) = .ok .faultNoFrame ∧ decode (.faultCode 4 1) = .ok (.faultKindMismatch .cont) ∧
    decode (.faultCode 5 0x04) = .ok (.faultBadOp 0x04) ∧ decode (.faultCode 6 9) = .ok (.faultBadTag 9) := by decide

/-- The two kind bits (R56). -/
theorem test_decode_kind_bits : decode (.kindBit 0) = .ok .kindInit ∧ decode (.kindBit 1) = .ok .kindCont := by decide

/-- Words as the table numbers them (log entry 13): byte 0 of a report and of a body is the most significant. -/
theorem test_decodeTableWord_report_body :
    decodeTableWord 520 (0x001122334481000100 <<< 448) = some (.frameInit cidOf1122 1 1 (bytesOf 57 0 [])) ∧
    decodeTableWord 512 (0x1122334403BB <<< 464) = some (.bodyCont cidOf1122 3 (bytesOf 59 0 [0xBB])) := by decide

/-- One-byte words (log entry 13): an operation code, else a command byte, else an error byte. -/
theorem test_decodeTableWord_bytes :
    decodeTableWord 8 0x1A = some .txMux ∧ decodeTableWord 8 0x3B = some .cmdKeepalive ∧
    decodeTableWord 8 0x7F = some .errOther ∧ decodeTableWord 8 0x80 = none := by decide

/-! ### One step of each operation (95_test_vectors.md) -/

/-- V1. -/
theorem test_cmdEnc : port Response.byte_o (.cmdEnc 8) State.reset = some 0x3B ∧
    port Response.alias_o (.cmdEnc 8) State.reset = some 0 ∧ (after (.cmdEnc 8) State.reset).fstat = 0x00 := by decide
theorem test_cmdEnc_alias : port Response.byte_o (.cmdEnc 10) State.reset = some 0x00 ∧
    port Response.alias_o (.cmdEnc 10) State.reset = some 1 ∧ (after (.cmdEnc 10) State.reset).fstat = 0x80 := by decide

/-- V2: over all 256 bytes, found for exactly ten. -/
theorem test_cmdDec : (List.range 256).filter (fun n => port Response.found_o (.cmdDec (BitVec.ofNat 8 n)) State.reset = some 1) =
    [0x00, 0x01, 0x03, 0x04, 0x06, 0x08, 0x10, 0x11, 0x3B, 0x3F] := by decide
/-- S3. -/
theorem test_cmdDec_unknown : port Response.cmd_o (.cmdDec 0x7E) State.reset = some 0 ∧
    port Response.found_o (.cmdDec 0x7E) State.reset = some 0 := by decide

/-- V3. -/
theorem test_errEnc : port Response.byte_o (.errEnc 6) State.reset = some 0x0A ∧
    port Response.byte_o (.errEnc 8) State.reset = some 0x7F := by decide
theorem test_errEnc_badTag : outcome (.errEnc 9) State.reset = some (0, 6) ∧
    (after (.errEnc 9) State.reset).fstat = 0x40 := by decide

/-- V3: over all 256 bytes, found for exactly nine. -/
theorem test_errDec : (List.range 256).filter (fun n => port Response.found_o (.errDec (BitVec.ofNat 8 n)) State.reset = some 1) =
    [0x01, 0x02, 0x03, 0x04, 0x05, 0x06, 0x0A, 0x0B, 0x7F] := by decide
theorem test_errDec_unknown : port Response.err_o (.errDec 0x3F) State.reset = some 15 ∧
    port Response.err_o (.errDec 0x0B) State.reset = some 7 := by decide

/-- S1. -/
theorem test_initNew : afterS1.fb.toList = [0x00, 0x11, 0x22, 0x33, 0x44, 0x81, 0x00, 0x01, 0xAA] ++ List.replicate 56 0x00 ∧
    afterS1.valid = true ∧ afterS1.kind = .init ∧ afterS1.fstat = 0x00 := by decide
/-- P4: the frame of S1 survives an oversized payload. -/
theorem test_initNew_payloadTooLarge :
    outcome (.initNew cidOf1122 2 58 (bytesOf 59 0xFF []) 58) afterS1 = some (0, 1) ∧
    (after (.initNew cidOf1122 2 58 (bytesOf 59 0xFF []) 58) afterS1).fb = afterS1.fb ∧
    (after (.initNew cidOf1122 2 58 (bytesOf 59 0xFF []) 58) afterS1).fstat = 0x02 := by decide

/-- R76: the body of S1 gives the frame of S1. -/
theorem test_initFromWire : (after (.initFromWire bodyS1 64) afterS2).fb = afterS1.fb ∧
    (after (.initFromWire bodyS1 64) afterS2).kind = .init := by decide
/-- V9. -/
theorem test_initFromWire_malformed : outcome (.initFromWire bodyS1 65) State.reset = some (0, 2) ∧
    (after (.initFromWire bodyS1 65) State.reset).valid = false := by decide

/-- S1. -/
theorem test_initToWire : (port Response.report_o .initToWire afterS1).map Vector.toList =
    some ([0x00, 0x11, 0x22, 0x33, 0x44, 0x81, 0x00, 0x01, 0xAA] ++ List.replicate 56 0x00) := by decide
theorem test_initToWire_kindMismatch : outcome .initToWire afterS2 = some (0, 4) := by decide

/-- R78, V11. -/
theorem test_initCid : port Response.cid_o .initCid afterS1 = some cidOf1122 := by decide
theorem test_initCid_noFrame : outcome .initCid State.reset = some (0, 3) ∧
    (after .initCid State.reset).fstat = 0x08 := by decide

/-- R79; V12: the type byte 0x03 of a continuation body reads as Msg. -/
theorem test_initCmd : port Response.cmd_o .initCmd afterS1 = some 1 ∧
    port Response.found_o .initCmd afterS1 = some 1 := by decide
theorem test_initCmd_misloaded : port Response.cmd_o .initCmd (after (.initFromWire bodyS2 64) State.reset) = some 2 := by
  decide

/-- V5: big-endian. -/
theorem test_initSize : (after (.initNew cidOf1122 0 0x1234 (bytesOf 59 0 []) 0) State.reset).fb.toList.take 8 =
      [0x00, 0x11, 0x22, 0x33, 0x44, 0x80, 0x12, 0x34] ∧
    port Response.size_o .initSize (after (.initNew cidOf1122 0 0x1234 (bytesOf 59 0 []) 0) State.reset) = some 4660 := by
  decide
/-- V11. -/
theorem test_initSize_kindMismatch : outcome .initSize afterS2 = some (0, 4) ∧ (after .initSize afterS2).fstat = 0x10 := by
  decide

/-- R81. -/
theorem test_initPayload : (port Response.pay_o .initPayload afterS1).map Vector.toList =
      some (0xAA :: List.replicate 58 0x00) ∧
    port Response.paylen_o .initPayload afterS1 = some 57 := by decide

/-- S2. -/
theorem test_contNew : afterS2.fb.toList = [0x00, 0x11, 0x22, 0x33, 0x44, 0x03, 0xBB, 0xCC] ++ List.replicate 57 0x00 ∧
    afterS2.valid = true ∧ afterS2.kind = .cont ∧ afterS2.fstat = 0x00 := by decide
/-- V7. -/
theorem test_contNew_payload_limits : outcome (.contNew cidOf1122 1 (bytesOf 59 0xFF []) 59) State.reset = some (1, 0) ∧
    outcome (.contNew cidOf1122 1 (bytesOf 59 0xFF []) 60) State.reset = some (0, 1) := by decide

/-- V12: the body of an init frame loads, and its type byte reads raw. -/
theorem test_contFromWire : port Response.seq_o .contSeq (after (.contFromWire bodyS1 64) State.reset) = some 129 := by
  decide
/-- V9. -/
theorem test_contFromWire_malformed : outcome (.contFromWire bodyS1 0) State.reset = some (0, 2) := by decide

/-- S2, V11. -/
theorem test_contToWire : (port Response.report_o .contToWire afterS2).map Vector.toList =
    some ([0x00, 0x11, 0x22, 0x33, 0x44, 0x03, 0xBB, 0xCC] ++ List.replicate 57 0x00) := by decide
theorem test_contToWire_kindMismatch : outcome .contToWire afterS1 = some (0, 4) := by decide

/-- R86. -/
theorem test_contCid : port Response.cid_o .contCid afterS2 = some cidOf1122 := by decide

/-- R87; V11: NoFrame before KindMismatch. -/
theorem test_contSeq : port Response.seq_o .contSeq afterS2 = some 3 := by decide
theorem test_contSeq_noFrame : outcome .contSeq State.reset = some (0, 3) := by decide

/-- R88. -/
theorem test_contPayload : (port Response.pay_o .contPayload afterS2).map Vector.toList =
      some ([0xBB, 0xCC] ++ List.replicate 57 0x00) ∧
    port Response.paylen_o .contPayload afterS2 = some 59 := by decide

/-- V10. -/
theorem test_classify : [0x00, 0x03, 0x7F, 0x80, 0x81, 0xBF, 0xFE, 0xFF].map
      (fun b => port Response.kind_o (.classify (bytesOf 64 0x99 [0, 0, 0, 0, b]) 64) State.reset) =
    [some 1, some 1, some 1, some 0, some 0, some 0, some 0, some 0] := by decide
/-- R92: a frame held survives. -/
theorem test_classify_keeps_frame : (after (.classify bodyS2 64) afterS1).fb = afterS1.fb ∧
    (after (.classify bodyS2 64) afterS1).kind = .init := by decide

/-- R93. -/
theorem test_rxDemux : port Response.kind_o (.rxDemux bodyS2 64) afterS1 = some 1 ∧
    (after (.rxDemux bodyS2 64) afterS1).fb = afterS2.fb ∧ (after (.rxDemux bodyS2 64) afterS1).kind = .cont := by decide
/-- V13: a report whose byte 0 was not removed. -/
theorem test_rxDemux_unstripped : port Response.kind_o (.rxDemux (slice afterS1.fb 0 64) 64) State.reset = some 1 ∧
    outcome (.rxDemux (slice afterS1.fb 0 64) 65) State.reset = some (0, 2) := by decide

/-- R94. -/
theorem test_txMux : port Response.kind_o .txMux afterS2 = some 1 ∧
    port Response.report_o .txMux afterS2 = some afterS2.fb := by decide
/-- V11. -/
theorem test_txMux_noFrame : outcome .txMux State.reset = some (0, 3) := by decide

/-- V11: every reserved code. -/
theorem test_reserved : ∀ i ∈ [Instr.reserved04, .reserved05, .reserved06, .reserved07, .reserved0F, .reserved15,
      .reserved17, .reserved1B, .reserved1C, .reserved1D, .reserved1E, .reserved1F],
    outcome i afterS1 = some (0, 5) ∧ (after i afterS1).fstat = 0x20 := by decide

/-! ### One step of the data formats' rows (log entries 8 to 11) -/

theorem test_body_rows :
    (after (.bodyInit cidOf1122 1 1 (bytesOf 57 0 [0xAA])) State.reset).fb = afterS1.fb ∧
    (after (.bodyInit cidOf1122 1 1 (bytesOf 57 0 [0xAA])) State.reset).kind = .init ∧
    (after (.bodyCont cidOf1122 3 (bytesOf 59 0 [0xBB, 0xCC])) State.reset).fb = afterS2.fb ∧
    (after (.bodyCont cidOf1122 3 (bytesOf 59 0 [0xBB, 0xCC])) State.reset).kind = .cont := by decide
/-- V13. -/
theorem test_frame_rows : outcome (.frameInit cidOf1122 1 1 (bytesOf 57 0 [0xAA])) afterS2 = some (0, 2) ∧
    outcome (.frameCont cidOf1122 3 (bytesOf 59 0 [0xBB])) afterS2 = some (0, 2) := by decide
/-- V2. -/
theorem test_command_byte_rows : [Instr.cmdInvalid, .cmdPing, .cmdMsg, .cmdLock, .cmdInit, .cmdWink, .cmdCbor, .cmdCancel,
      .cmdKeepalive, .cmdError].map (fun i => port Response.cmd_o i State.reset) =
    [0, 1, 2, 3, 4, 5, 6, 7, 8, 9].map some := by decide
/-- V3. -/
theorem test_error_byte_rows : [Instr.errInvalidCmd, .errInvalidPar, .errInvalidLen, .errInvalidSeq, .errMsgTimeout,
      .errChannelBusy, .errLockRequired, .errNa, .errOther].map (fun i => port Response.err_o i State.reset) =
    [0, 1, 2, 3, 4, 5, 6, 7, 8].map some := by decide
/-- R19, R102. -/
theorem test_fault_rows : [Instr.faultPayloadTooLarge 58, .faultMalformedFrame 63, .faultNoFrame, .faultKindMismatch .cont,
      .faultBadOp 0x04, .faultBadTag 9].map (fun i => (outcome i State.reset, (after i State.reset).fstat)) =
    [(some (0, 1), 0x02), (some (0, 2), 0x04), (some (0, 3), 0x08), (some (0, 4), 0x10), (some (0, 5), 0x20),
      (some (0, 6), 0x40)] := by decide
theorem test_kind_rows : port Response.kind_o .kindInit State.reset = some 0 ∧
    port Response.kind_o .kindCont State.reset = some 1 := by decide

/-! ### Steps, reset, instances, the written form -/

/-- R20: the three status outputs. -/
theorem test_status_outputs : afterS2.valid_o = 1 ∧ afterS2.kindreg_o = 1 ∧ afterS2.fstat_o = 0x00 := by decide

/-- The very next step runs the word that `withFetchWord` presents. -/
theorem test_withFetchWord :
    (nextState (step (State.reset.withFetchWord 8 0x1F))).map State.fstat = some 0x20 := by decide

/-- R117: reset from a state with a frame and a fault recorded. -/
theorem test_reset_pin :
    nextState (step { after (.errEnc 9) afterS2 with pending := [.rst (some (ask 0x1F))] }) = some State.reset := by decide

/-- R61, R62: INIT_SEND lists one byte, so `plen` is 1. -/
theorem test_programOf :
    (programOf (initSend cidOf1122 1 1 [0xAA])).map (fun r => match r with
      | .request q => (q.op_i.toNat, q.plen_i.toNat)
      | .rst _ => (99, 99)) = [(0x08, 1), (0x0A, 0)] := by decide

/-- R61: 63 bytes listed; and 64, where the spec is silent and the model presents 63 (log entry 19). -/
theorem test_listedLength : listedLength (List.replicate 63 0xFF) = 63 ∧ listedLength (List.replicate 64 0xFF) = 63 ∧
    listedLength [0xAA] = 1 := by decide

/-- R61. -/
theorem test_written_request : writtenRequest (.contNew cidOf1122 3 (bytesOf 59 0 [0xBB, 0xCC]) 2) =
    some "CONT_NEW cid=[11 22 33 44] seq=3 payload=[BB CC]" := by decide
theorem test_written_response : (after (.cmdDec 0x10) State.reset).response.map writtenResponse =
    some "-> ok cmd=Cbor found=1" := by decide

/-! ### Witnesses: for each statement with hypotheses, values that meet them all -/

/-- A state whose host presents one stimulus. -/
def presenting (x : Stimulus) : State := { State.reset with pending := [x] }

theorem witness_StepRunsDecodedRequest :
    ∃ (s : State) (r : Request) (rest : List Stimulus) (i : Instr),
      s.pending = .request r :: rest ∧ decode (.request r) = .ok i ∧ i.wf = true :=
  ⟨presenting (.request (ask 0x1A)), ask 0x1A, [], .txMux, rfl, rfl, rfl⟩

theorem witness_IdleStepKeepsState : ∃ s : State, s.pending = [] := ⟨State.reset, rfl⟩

/-- With a request abandoned and with none. -/
theorem witness_ResetPinRestoresResetValues :
    (∃ s : State, s.pending = .rst none :: []) ∧ ∃ (s : State) (r : Request), s.pending = .rst (some r) :: [] :=
  ⟨⟨presenting (.rst none), rfl⟩, presenting (.rst (some (ask 0x08))), ask 0x08, rfl⟩

/-- At the bounds of every check of `wf`. -/
theorem witness_DecodeOfEncode :
    ∀ i ∈ [Instr.txMux, .faultPayloadTooLarge 58, .faultPayloadTooLarge 63, .faultMalformedFrame 0, .faultMalformedFrame 63,
      .faultMalformedFrame 65, .faultMalformedFrame 127, .faultBadOp 0x04, .faultBadOp 0x1F, .faultBadTag 9,
      .faultBadTag 15], i.wf = true := by decide

/-- In each data format. -/
theorem witness_EncodeOfDecodedDataWord :
    (∃ i, decode (.report (bytesOf 65 0 [])) = .ok i) ∧ (∃ i, decode (.body bodyS1) = .ok i) ∧
    (∃ i, decode (.cmdByte 0x3F) = .ok i) ∧ (∃ i, decode (.errByte 0x7F) = .ok i) ∧
    (∃ i, decode (.faultCode 6 15) = .ok i) ∧ (∃ i, decode (.kindBit 1) = .ok i) ∧
    ∀ w ∈ [TableWord.report (bytesOf 65 0 []), .body bodyS1, .cmdByte 0x3F, .errByte 0x7F, .faultCode 6 15, .kindBit 1],
      w.format ≠ .op :=
  ⟨⟨_, rfl⟩, ⟨_, rfl⟩, ⟨_, rfl⟩, ⟨_, rfl⟩, ⟨_, rfl⟩, ⟨_, rfl⟩, by simp [TableWord.format]⟩

theorem witness_DecodedIsWellFormed : ∃ (w : TableWord) (i : Instr), decode w = .ok i := ⟨.faultCode 1 58, _, rfl⟩

/-- TX_MUX uses no operand port, and so meets every clause at once; and each clause next to a code that does use its port. -/
theorem witness_UnnamedPortsAreIgnored :
    (ask 0x1A).op_i ∉ [0x00, 0x01, 0x02, 0x03, 0x08, 0x09, 0x10, 0x11, 0x18, 0x19] ∧
    (ask 0x09).op_i ∉ [0x08, 0x10] ∧ (ask 0x01).op_i ∉ [0x00, 0x08] ∧ (ask 0x03).op_i ∉ [0x02] ∧
    (ask 0x09).op_i ∉ [0x08] ∧ (ask 0x11).op_i ∉ [0x10] ∧ (ask 0x1A).op_i ∉ [0x09, 0x11, 0x18, 0x19] ∧
    (ask 0x02).op_i ∉ [0x01, 0x03] := by decide

theorem witness_ErrEncAnswersWireByte : (0 : BitVec 4).toNat ≤ 8 ∧ (8 : BitVec 4).toNat ≤ 8 ∧
    9 ≤ (9 : BitVec 4).toNat ∧ 9 ≤ (15 : BitVec 4).toNat := by decide

theorem witness_BadTagRaisedByErrEncAlone :
    9 ≤ (9 : BitVec 4).toNat ∧ 9 ≤ (15 : BitVec 4).toNat ∧
    (10 ≤ (10 : BitVec 4).toNat ∧ ∃ t, exec (.cmdEnc 10) State.reset = .next t) ∧
    (10 ≤ (15 : BitVec 4).toNat ∧ (57 : BitVec 6).toNat ≤ 57 ∧
      ∃ t, exec (.initNew cidOf1122 15 0 (bytesOf 59 0 []) 57) State.reset = .next t) ∧
    ∃ t r, exec (decodeRequest { ask 0x02 with err_i := 9 }) State.reset = .next t ∧ t.response = some r ∧ r.fault_o = 6 :=
  ⟨by decide, by decide, ⟨by decide, _, rfl⟩, ⟨by decide, by decide, _, rfl⟩, _, _, rfl, rfl, rfl⟩

/-- At the bounds of the tag ranges, and with a byte inside and a byte outside each table. -/
theorem witness_CodeTableLaws :
    (9 : BitVec 4).toNat ≤ 9 ∧ 10 ≤ (10 : BitVec 4).toNat ∧ 10 ≤ (15 : BitVec 4).toNat ∧ (cmdOfByte 0x3F).2 = 1 ∧
    (cmdOfByte 0x40).2 = 0 ∧ (8 : BitVec 4).toNat ≤ 8 ∧ errOfByte 0x7F = (8, 1) ∧ cmdByte 9 = cmdByte 9 ∧
    errorByte .other = errorByte .other := by decide

/-- Each clause at both ends of its range. -/
theorem witness_InitNewBuildsFrame : (0 : BitVec 6).toNat ≤ 57 ∧ (57 : BitVec 6).toNat ≤ 57 ∧
    57 < (58 : BitVec 6).toNat ∧ 57 < (63 : BitVec 6).toNat := by decide
theorem witness_ContNewBuildsFrame : (0 : BitVec 6).toNat ≤ 59 ∧ (59 : BitVec 6).toNat ≤ 59 ∧
    59 < (60 : BitVec 6).toNat ∧ 59 < (63 : BitVec 6).toNat := by decide

theorem witness_PayloadTooLargeRaised : 57 < (58 : BitVec 6).toNat ∧ 57 < (63 : BitVec 6).toNat ∧
    59 < (60 : BitVec 6).toNat ∧ 59 < (63 : BitVec 6).toNat ∧ (57 : BitVec 6).toNat ≤ 57 ∧
    (58 : BitVec 6).toNat ≤ 59 ∧ (59 : BitVec 6).toNat ≤ 59 := by decide

/-- Two payloads that differ at the first byte not used. -/
theorem witness_PayloadTailIgnored : (∀ j, j < (1 : BitVec 6).toNat →
      byteAt (bytesOf 59 0 [0xAA, 0x01]) j = byteAt (bytesOf 59 0 [0xAA, 0x02]) j) ∧
    bytesOf 59 0 [0xAA, 0x01] ≠ bytesOf 59 0 [0xAA, 0x02] := by decide

/-- The two clauses, the second at the bounds and on both sides of 64. -/
theorem witness_InitFromWireLoadsBody : (64 : BitVec 7).toNat = 64 ∧ ∀ n ∈ [(0 : BitVec 7), 63, 65, 127], n.toNat ≠ 64 := by
  decide
theorem witness_ContFromWireLoadsBody : (64 : BitVec 7).toNat = 64 ∧ ∀ n ∈ [(0 : BitVec 7), 63, 65, 127], n.toNat ≠ 64 := by
  decide
theorem witness_RxDemuxLoadsBody : (64 : BitVec 7).toNat = 64 ∧ ∀ n ∈ [(0 : BitVec 7), 63, 65, 127], n.toNat ≠ 64 := by
  decide
theorem witness_ClassifyAnswersKind : (64 : BitVec 7).toNat = 64 ∧ ∀ n ∈ [(0 : BitVec 7), 63, 65, 127], n.toNat ≠ 64 := by
  decide
theorem witness_MalformedFrameRaised : (64 : BitVec 7).toNat = 64 ∧ (∀ n ∈ [(0 : BitVec 7), 63, 65, 127], n.toNat ≠ 64) ∧
    Instr.rxDemux bodyS1 63 ∈ [Instr.initFromWire bodyS1 63, .contFromWire bodyS1 63, .classify bodyS1 63,
      .rxDemux bodyS1 63] := by decide

theorem witness_InitReadsAnswer : afterS1.valid = true ∧ afterS1.kind = .init := by decide
theorem witness_ContReadsAnswer : afterS2.valid = true ∧ afterS2.kind = .cont := by decide
theorem witness_TxMuxAnswers : afterS1.valid = true ∧ afterS2.valid = true ∧ State.reset.valid = false := by
  decide

/-- VALID = 0 with either kind. -/
theorem witness_NoFrameRaised : State.reset.valid = false ∧
    ({ State.reset with kind := .cont } : State).valid = false ∧ Instr.txMux ∈ [Instr.initToWire, .initCid, .initCmd,
      .initSize, .initPayload, .contToWire, .contCid, .contSeq, .contPayload, .txMux] := by decide

/-- Both clauses. -/
theorem witness_KindMismatchRaised : (afterS2.valid = true ∧ afterS2.kind = .cont) ∧
    (afterS1.valid = true ∧ afterS1.kind = .init) := by decide

theorem witness_ReservedCodesRaiseBadOp : ∀ op ∈ [(0x04 : BitVec 5), 0x1F],
    (ask op).op_i ∈ [0x04, 0x05, 0x06, 0x07, 0x0F, 0x15, 0x17, 0x1B, 0x1C, 0x1D, 0x1E, 0x1F] := by decide

/-- A row of each format that a request presents. -/
theorem witness_RowsActAsTheirRequest :
    (∃ q, requestPresenting (encode .txMux) = some q) ∧ (∃ q, requestPresenting (encode .cmdPing) = some q) ∧
    (∃ q, requestPresenting (encode .errNa) = some q) ∧
    (∃ q, requestPresenting (encode (.bodyCont cidOf1122 3 (bytesOf 59 0 []))) = some q) ∧
    ∃ q, requestPresenting (encode (.frameCont cidOf1122 3 (bytesOf 59 0 []))) = some q :=
  ⟨⟨_, rfl⟩, ⟨_, rfl⟩, ⟨_, rfl⟩, ⟨_, rfl⟩, _, rfl⟩

/-- Each clause at its bound. -/
theorem witness_OperationFaultsAreFaultRows :
    57 < (58 : BitVec 6).toNat ∧ 59 < (60 : BitVec 6).toNat ∧ (63 : BitVec 7).toNat ≠ 64 ∧ (65 : BitVec 7).toNat ≠ 64 ∧
    (Instr.txMux.readsAs ≠ none ∧ State.reset.valid = false) ∧
    (Instr.initCid.readsAs = some (some .init) ∧ afterS2.valid = true ∧ afterS2.kind ≠ .init) ∧
    (Instr.contCid.readsAs = some (some .cont) ∧ afterS1.valid = true ∧ afterS1.kind ≠ .cont) ∧
    reservedOp (ask 0x1F).op_i = true ∧ 9 ≤ (9 : BitVec 4).toNat := by decide

/-- A response with `ok_o = 0` and one with `ok_o = 1`. -/
theorem witness_FaultsArePrecise :
    (∃ t r, exec (.errEnc 9) State.reset = .next t ∧ t.response = some r ∧ r.ok_o = 0) ∧
    ∃ t r, exec (.errEnc 8) State.reset = .next t ∧ t.response = some r ∧ r.ok_o = 1 :=
  ⟨⟨_, _, rfl, rfl, rfl⟩, _, _, rfl, rfl, rfl⟩

theorem witness_FstatIsSticky : ∃ t, exec (.cmdEnc 10) State.reset = .next t := ⟨_, rfl⟩

/-- A load that ends ok. -/
theorem witness_ValidSetByLoadsAlone :
    ∃ t, exec (decodeRequest { ask 0x09 with blen_i := 64 }) State.reset = .next t := ⟨_, rfl⟩

theorem witness_OnlyLoadsWriteFrame : ∃ t, exec (decodeRequest (ask 0x18)) State.reset = .next t ∧
    (decodeRequest (ask 0x18)).isLoad = false := ⟨_, rfl, rfl⟩

theorem witness_ReadsChangeNothing : Instr.txMux.readsAs ≠ none ∧ ∃ t,
    exec .txMux { State.reset with valid := true } = .next t ∧ t.response.map Response.ok_o = some 1 :=
  ⟨by decide, _, rfl, rfl⟩

/-- Two states that differ in FSTAT, in the response and in the host's list. -/
theorem witness_ResponseDependsOnFrameAlone : ∃ s s' t t' : State, s.SameFrame s' ∧ s ≠ s' ∧
    exec (.errEnc 9) s = .next t ∧ exec (.errEnc 9) s' = .next t' :=
  ⟨State.reset, { State.reset with fstat := 0x82, response := some okResponse, pending := [.rst none] }, _, _,
    by decide, by decide, rfl, rfl⟩

theorem witness_FaultLeavesNextRequestAlone : ∃ t u v : State,
    exec (.errEnc 9) State.reset = .next t ∧ t.response.map Response.ok_o = some 0 ∧
    exec (.cmdEnc 10) State.reset = .next u ∧ exec (.cmdEnc 10) t = .next v := ⟨_, _, _, rfl, rfl, rfl, rfl⟩

theorem witness_InitRoundTrip : (57 : BitVec 6).toNat ≤ 57 := by decide
theorem witness_ContRoundTrip : (59 : BitVec 6).toNat ≤ 59 := by decide

/-- Both clauses, with the sequence numbers 127 and 128. -/
theorem witness_BuiltFramesClassify :
    ((57 : BitVec 6).toNat ≤ 57 ∧ ∃ t, exec (.initNew cidOf1122 10 0 (bytesOf 59 0 []) 57) State.reset = .next t) ∧
    ((59 : BitVec 6).toNat ≤ 59 ∧ ∃ t, exec (.contNew cidOf1122 127 (bytesOf 59 0 []) 59) State.reset = .next t) ∧
    ∃ t, exec (.contNew cidOf1122 128 (bytesOf 59 0 []) 59) State.reset = .next t :=
  ⟨⟨by decide, _, rfl⟩, ⟨by decide, _, rfl⟩, _, rfl⟩

/-- A frame whose KIND agrees with its type byte, and one whose KIND does not (R119). -/
theorem witness_TxMuxThenRxDemux : (∃ t, exec (.rxDemux bodyS1 64) State.reset = .next t) ∧
    (afterS1.valid = true ∧ byteAt afterS1.fb 0 = 0x00 ∧ afterS1.kind = kindOf (byteAt afterS1.fb 5)) ∧
    ((after (.contNew cidOf1122 0x83 (bytesOf 59 0 []) 0) State.reset).valid = true ∧
      byteAt (after (.contNew cidOf1122 0x83 (bytesOf 59 0 []) 0) State.reset).fb 0 = 0x00 ∧
      (after (.contNew cidOf1122 0x83 (bytesOf 59 0 []) 0) State.reset).kind ≠
        kindOf (byteAt (after (.contNew cidOf1122 0x83 (bytesOf 59 0 []) 0) State.reset).fb 5)) :=
  ⟨⟨_, rfl⟩, by decide, by decide⟩

theorem witness_StepKeepsInvariant : ∃ t : State, (presenting (.request (ask 0x1A))).Inv ∧
    step (presenting (.request (ask 0x1A))) = .next t := ⟨_, by decide, rfl⟩

theorem witness_EveryRunGoesOn : (presenting (.request (ask 0x1A))).Inv := by decide

/-- Two instances, of which the second steps. -/
theorem witness_InstancesShareNothing : (0 : Nat) ≠ 1 ∧
    [State.reset, presenting (.request (ask 0x1A))][1]? = some (presenting (.request (ask 0x1A))) := ⟨by decide, rfl⟩

end Sys2Proof.Tests
end

section
/-! PROOFS. What every instruction keeps, what one step does and what a run of steps keeps (00_scope.md R12,
60_exceptions.md R113, R114). -/

namespace Sys2Proof.Machine

/-! ### What every answer of an instruction keeps -/

theorem Answer.pending_eq {s t : State} (h : Answer s t) : t.pending = s.pending := by
  rcases h with ⟨f, rfl⟩ | ⟨r, -, rfl | ⟨c, rfl⟩ | ⟨k, v, -, rfl⟩ | ⟨c, k, v, -, rfl⟩⟩ <;> simp

theorem Answer.response_isSome {s t : State} (h : Answer s t) : t.response.isSome = true := by
  rcases h with ⟨f, rfl⟩ | ⟨r, -, rfl | ⟨c, rfl⟩ | ⟨k, v, -, rfl⟩ | ⟨c, k, v, -, rfl⟩⟩ <;> simp

/-! ### The invariant under each update of the state -/

/-- ALIAS is FSTAT bit 7, so noting it leaves bit 0 (10_state.md R19). -/
theorem fstatAlias_bit0 (fstat : BitVec 8) (cmd : BitVec 4) : (fstatAlias fstat cmd).getLsbD 0 = fstat.getLsbD 0 := by
  unfold fstatAlias
  split
  · exact fstatSet_bit0 fstat 7 (by omega)
  · rfl

/-- The invariant speaks of the block alone, so the response may be any. -/
theorem State.Inv.respond {s : State} (h : s.Inv) (r : Response) : (s.respond r).Inv := h

/-- The invariant speaks of the block alone, so the host's list may be any. -/
theorem State.Inv.withPending {s : State} (h : s.Inv) (p : List Stimulus) : State.Inv { s with pending := p } := h

theorem State.Inv.noteAlias {s : State} (h : s.Inv) (c : BitVec 4) : (s.noteAlias c).Inv := by
  obtain ⟨hrid, hbit, hreset⟩ := h
  exact ⟨hrid, by rw [State.noteAlias_fstat, fstatAlias_bit0, hbit], hreset⟩

/-- A fault's code is at least 1, so raising it leaves FSTAT bit 0. -/
theorem State.Inv.afterRaise {s : State} (h : s.Inv) (f : FrameFault) : (s.afterRaise f).Inv := by
  obtain ⟨hrid, hbit, hreset⟩ := h
  exact ⟨hrid, by rw [State.afterRaise_fstat, fstatSet_bit0 _ _ f.code_range.1, hbit], hreset⟩

/-- A load sets VALID, so of the frame only the report-ID slot matters. -/
theorem State.Inv.load {s : State} (h : s.Inv) (k : Kind) {v : Bytes 65} (hv : byteAt v 0 = 0x00) : (s.load k v).Inv := by
  obtain ⟨-, hbit, -⟩ := h
  exact ⟨hv, hbit, by simp⟩

theorem State.inv_reset : State.reset.Inv := by decide

theorem State.inv_afterReset (rest : List Stimulus) : (State.afterReset rest).Inv := State.inv_reset.withPending rest

theorem Answer.keeps_inv {s t : State} (h : Answer s t) (hs : s.Inv) : t.Inv := by
  rcases h with ⟨f, rfl⟩ | ⟨r, -, rfl | ⟨c, rfl⟩ | ⟨k, v, hv, rfl⟩ | ⟨c, k, v, hv, rfl⟩⟩
  · exact hs.afterRaise f
  · exact hs.respond r
  · exact (hs.noteAlias c).respond r
  · exact (hs.load k hv).respond r
  · exact ((hs.noteAlias c).load k hv).respond r

/-! ### One step, by the head of the host's list -/

theorem step_of_nil {s : State} (h : s.pending = []) : step s = .next s := by
  simp [step, h]

theorem step_of_rst {s : State} {abandoned : Option Request} {rest : List Stimulus}
    (h : s.pending = .rst abandoned :: rest) : step s = .next (State.afterReset rest) := by
  simp [step, h]

theorem step_of_request {s : State} {r : Request} {rest : List Stimulus} (h : s.pending = .request r :: rest) :
    step s = exec (decodeRequest r) { s with pending := rest } := by
  simp [step, h]

/-- Decoding a request never fails, and answers the operation its ports select (30_encoding.md R58, R59). -/
theorem decode_request_eq_ok {r : Request} {i : Instr} : decode (.request r) = .ok i ↔ decodeRequest r = i :=
  ⟨Except.ok.inj, congrArg Except.ok⟩

/-- Everything a step can do: stand idle, reset, or perform one request. -/
theorem step_cases (s : State) :
    (s.pending = [] ∧ step s = .next s) ∨
      (∃ abandoned rest, s.pending = .rst abandoned :: rest ∧ step s = .next (State.afterReset rest)) ∨
      ∃ r rest t, s.pending = .request r :: rest ∧ step s = .next t ∧ Answer { s with pending := rest } t := by
  match h : s.pending with
  | [] => exact .inl ⟨rfl, step_of_nil h⟩
  | .rst abandoned :: rest => exact .inr (.inl ⟨abandoned, rest, rfl, step_of_rst h⟩)
  | .request r :: rest =>
    obtain ⟨t, ht, hans⟩ := exec_answer (decodeRequest r) { s with pending := rest }
    exact .inr (.inr ⟨r, rest, t, rfl, (step_of_request h).trans ht, hans⟩)

/-- A step answers a next state, takes at most the next stimulus off the host's list, and keeps the invariant. -/
theorem step_goes_on (s : State) : ∃ t, step s = .next t ∧ t.pending = s.pending.tail ∧ (s.Inv → t.Inv) := by
  rcases step_cases s with ⟨hp, ht⟩ | ⟨abandoned, rest, hp, ht⟩ | ⟨r, rest, t, hp, ht, hans⟩
  · exact ⟨s, ht, by simp [hp], id⟩
  · exact ⟨_, ht, by simp [hp], fun _ => State.inv_afterReset rest⟩
  · exact ⟨t, ht, by simp [hp, hans.pending_eq], fun hs => hans.keeps_inv (hs.withPending rest)⟩

/-! ### Runs -/

theorem afterSteps_succ_of_step {s t : State} (n : Nat) (h : step s = .next t) : afterSteps (n + 1) s = afterSteps n t := by
  simp [afterSteps, h, nextState]

/-! ### The statements -/

/-- Settles O41: `exec_answer` says what an instruction can leave, and each of these keeps the list and has a response. -/
theorem execAlwaysAnswers : Obligations.ExecAlwaysAnswers := by
  intro i s
  obtain ⟨t, ht, hans⟩ := exec_answer i s
  exact ⟨t, ht, hans.pending_eq, hans.response_isSome⟩

/-- Settles O58, by induction on the number of steps, for every state at once. -/
theorem everyRunGoesOn : Obligations.EveryRunGoesOn := by
  intro n
  induction n with
  | zero => exact fun s => ⟨s, rfl, rfl, id⟩
  | succ n ih =>
    intro s
    obtain ⟨u, hu, hupending, huinv⟩ := step_goes_on s
    obtain ⟨t, ht, htpending, htinv⟩ := ih u
    refine ⟨t, (afterSteps_succ_of_step n hu).trans ht, ?_, htinv ∘ huinv⟩
    rw [htpending, hupending, List.drop_tail]

/-- Settles O1: the step decodes the request itself, whether or not the instruction is known to be well formed. -/
theorem stepRunsDecodedRequest : Obligations.StepRunsDecodedRequest := by
  intro s r rest i hp hdecode _
  rw [step_of_request hp, decode_request_eq_ok.mp hdecode]

/-- Settles O2. -/
theorem idleStepKeepsState : Obligations.IdleStepKeepsState := fun _ => step_of_nil

end Sys2Proof.Machine
end

section
/-! PROOFS. What an instruction may do to the state, read off one form of its effect: the frame it loads, the FSTAT bits it
sets and its response, all three determined by FB, VALID and KIND (10_state.md R24, R26); then which ports a request's
operation uses (R23), the rows as requests, and the invariant (R16, R19, R25). -/

namespace Sys2Proof.Machine

/-! ### Bits of FSTAT -/

/-- A bit that `bits` has is within them. -/
theorem oneBit_within {bits : BitVec 8} {n : Nat} (h : bits.getLsbD n = true) : (1#8 <<< n) &&& ~~~bits = 0 := by
  rw [← BitVec.twoPow_eq, BitVec.twoPow_and]
  simp [h]

/-- Setting bits within the allowed ones clears none and sets no other. -/
theorem or_sticky_within {fstat bits allowed : BitVec 8} (h : bits &&& ~~~allowed = 0) :
    fstat &&& (fstat ||| bits) = fstat ∧ (fstat ||| bits) &&& ~~~(fstat ||| allowed) = 0 := by
  constructor
  · ext i hi
    simp +contextual
  · ext i hi
    have hbit : (bits[i] && !allowed[i]) = false := by
      rw [← BitVec.getElem_not, ← BitVec.getElem_and, h]
      exact BitVec.getElem_zero hi
    cases hf : fstat[i] <;> simp [hf, hbit]

/-- The FSTAT bit that encoding a command tag sets: ALIAS for the tags 10 to 15, else none (10_state.md R19). -/
def aliasBit (cmd : BitVec 4) : BitVec 8 := if 10 ≤ cmd.toNat then 0x80 else 0

theorem fstatAlias_eq_or (fstat : BitVec 8) (cmd : BitVec 4) : fstatAlias fstat cmd = fstat ||| aliasBit cmd := by
  rw [fstatAlias_eq, aliasBit]
  split <;> simp

theorem aliasBit_within {bits : BitVec 8} (cmd : BitVec 4) (h : bits.getLsbD 7 = true := by simp [Instr.fstatCanSet]) :
    aliasBit cmd &&& ~~~bits = 0 := by
  unfold aliasBit
  split
  · exact oneBit_within h
  · exact BitVec.zero_and

/-! ### Effects -/

/-- What an instruction does to a state: the kind and the frame it loads, if any, the FSTAT bits it sets, its response. -/
structure Effect where
  loaded : Option (Kind × Bytes 65)
  bits : BitVec 8
  response : Response

/-- The state an effect leaves. -/
def Effect.on (e : Effect) (s : State) : State where
  fb := e.loaded.elim s.fb Prod.snd
  valid := e.loaded.elim s.valid fun _ => true
  kind := e.loaded.elim s.kind Prod.fst
  fstat := s.fstat ||| e.bits
  pending := s.pending
  response := some e.response

@[simp] theorem Effect.on_response (e : Effect) (s : State) : (e.on s).response = some e.response := rfl

theorem Effect.on_fault (f : FrameFault) (s : State) :
    (Effect.mk none (1#8 <<< f.code.toNat) (faultResponse f)).on s = s.afterRaise f := rfl

theorem Effect.on_respond (r : Response) (s : State) : (Effect.mk none 0 r).on s = s.respond r := by
  simp [Effect.on, State.respond]

theorem Effect.on_load (k : Kind) (v : Bytes 65) (r : Response) (s : State) :
    (Effect.mk (some (k, v)) 0 r).on s = (s.load k v).respond r := by
  simp [Effect.on, State.load, State.respond]

theorem Effect.on_noteAlias (cmd : BitVec 4) (r : Response) (s : State) :
    (Effect.mk none (aliasBit cmd) r).on s = (s.noteAlias cmd).respond r := by
  simp [Effect.on, State.noteAlias, State.respond, fstatAlias_eq_or]

theorem Effect.on_noteAlias_load (cmd : BitVec 4) (k : Kind) (v : Bytes 65) (r : Response) (s : State) :
    (Effect.mk (some (k, v)) (aliasBit cmd) r).on s = ((s.noteAlias cmd).load k v).respond r := by
  simp [Effect.on, State.noteAlias, State.load, State.respond, fstatAlias_eq_or]

theorem Effect.on_sameFrame_of_not_loaded {e : Effect} (h : e.loaded.isSome = false) (s : State) :
    (e.on s).SameFrame s := by
  rw [Option.isSome_eq_false_iff, Option.isNone_iff_eq_none] at h
  simp [Effect.on, State.SameFrame, h]

theorem Effect.on_valid_iff (e : Effect) (s : State) :
    (e.on s).valid = true ↔ s.valid = true ∨ e.loaded.isSome = true := by
  cases h : e.loaded <;> simp [Effect.on, h]

/-- What an effect leaves of the frame, it takes from the frame. -/
theorem Effect.on_sameFrame {s s' : State} (e : Effect) (h : s.SameFrame s') : (e.on s).SameFrame (e.on s') := by
  obtain ⟨hfb, hvalid, hkind⟩ := h
  simp [Effect.on, State.SameFrame, hfb, hvalid, hkind]

/-! ### Meanings that act by one effect

Which FSTAT bits a meaning may set is, for `exec`, the row of 10_state.md R24, so the side conditions that a fault's bit is
among them are left to the table. -/

/-- From `s`, and from every state with the same FB, VALID and KIND, the meaning `m` answers by one and the same effect; the
effect sets no FSTAT bit outside `bits`, and it loads a frame exactly if `loads` holds and it ends ok. -/
def ActsWithin (bits : BitVec 8) (loads : Bool) (m : State → Host.Outcome State Fault Refusal) (s : State) : Prop :=
  ∃ e : Effect, (∀ s' : State, s.SameFrame s' → m s' = .next (e.on s')) ∧ e.bits &&& ~~~bits = 0 ∧
    e.loaded.isSome = (loads && e.response.ok_o == 1)

section
variable {bits : BitVec 8} {loads : Bool} {m m' : State → Host.Outcome State Fault Refusal} {s : State}

/-- Only what a meaning does on the states with the frame of `s` counts. -/
theorem ActsWithin.congr (h : ActsWithin bits loads m' s) (heq : ∀ s' : State, s.SameFrame s' → m s' = m' s') :
    ActsWithin bits loads m s := by
  obtain ⟨e, he, hbits, hload⟩ := h
  exact ⟨e, fun s' hs' => (heq s' hs').trans (he s' hs'), hbits, hload⟩

theorem actsWithin_raise (f : FrameFault)
    (hbit : bits.getLsbD f.code.toNat = true := by simp [FrameFault.code, Instr.fstatCanSet]) :
    ActsWithin bits loads (raise f) s :=
  ⟨⟨none, 1#8 <<< f.code.toNat, faultResponse f⟩, fun _ _ => rfl, oneBit_within hbit, by simp⟩

theorem actsWithin_respond (r : Response) : ActsWithin bits false (fun s => .next (s.respond r)) s :=
  ⟨⟨none, 0, r⟩, fun s' _ => by rw [Effect.on_respond], by simp, rfl⟩

/-- A read answers from the frame alone; what it can raise is NoFrame and, where it requires a kind, KindMismatch. -/
theorem actsWithin_readFrame {want : Option Kind} {answer : State → Response}
    (hanswer : ∀ s' : State, s.SameFrame s' → answer s' = answer s)
    (hno : bits.getLsbD 3 = true := by simp [Instr.fstatCanSet])
    (hkind : ∀ k, want = some k → bits.getLsbD 4 = true := by simp [Instr.fstatCanSet]) :
    ActsWithin bits false (readFrame want answer) s := by
  rcases frameCheck_cases want s with ⟨hv, -⟩ | ⟨hv, ⟨k, rfl, hk⟩, -⟩ | ⟨hv, hk, -⟩
  · exact (actsWithin_raise .noFrame hno).congr fun s' ⟨_, hv', _⟩ => readFrame_of_noFrame _ _ (hv'.trans hv)
  · refine (actsWithin_raise (.kindMismatch s.kind) (hkind k rfl)).congr fun s' ⟨_, hv', hk'⟩ => ?_
    rw [readFrame_of_mismatch answer (hv'.trans hv) (hk'.trans_ne hk), hk', raise]
  · refine (actsWithin_respond (answer s)).congr fun s' ⟨hfb', hv', hk'⟩ => ?_
    rw [readFrame_of_frame answer (hv'.trans hv) fun k hw => hk'.trans (hk k hw), hanswer s' ⟨hfb', hv', hk'⟩]

theorem actsWithin_loadBody {kind : Kind} {body : Bytes 64} {blen : BitVec 7} {answer : Response} (hok : answer.ok_o = 1)
    (hlength : blen.toNat ≠ 64 → bits.getLsbD 2 = true := by simp [Instr.fstatCanSet]) :
    ActsWithin bits true (loadBody kind body blen answer) s := by
  by_cases h : blen.toNat = 64
  · refine ⟨⟨some (kind, frameOfBody body), 0, answer⟩, fun s' _ => ?_, by simp, by simp [hok]⟩
    rw [loadBody_of_length _ _ _ _ h, Effect.on_load]
  · exact (actsWithin_raise _ (hlength h)).congr fun s' _ => loadBody_of_other_length _ _ _ _ h

theorem actsWithin_buildFrame {limit : Nat} {plen : BitVec 6} {built : State → State} (e : Effect)
    (hbuilt : ∀ s, built s = e.on s) (hbits : e.bits &&& ~~~bits = 0) (hload : e.loaded.isSome = true)
    (hok : e.response.ok_o = 1) (hlong : bits.getLsbD 1 = true := by simp [Instr.fstatCanSet]) :
    ActsWithin bits true (fun s => buildFrame limit plen (built s) s) s := by
  by_cases h : limit < plen.toNat
  · exact (actsWithin_raise _ hlong).congr fun s' _ => buildFrame_of_long _ _ h
  · refine ⟨e, fun s' _ => ?_, hbits, by simp [hload, hok]⟩
    exact (buildFrame_of_fits _ _ (not_lt.mp h)).trans (congrArg _ (hbuilt s'))

end

/-- Presenting a whole report never loads it (70_reset_and_hazards.md R123). -/
theorem presentReport_eq_raise (v : Bytes 65) : presentReport v = raise (.malformedFrame 65) := by
  funext s
  rw [presentReport, demuxBody, loadBody_of_other_length _ _ _ _ (by decide), raise]

theorem actsWithin_errEnc (err : BitVec 4) (s : State) : ActsWithin 0x40 false (execErrEnc err) s := by
  cases h : errorOfTag err with
  | some e =>
    exact (actsWithin_respond { okResponse with byte_o := some (errorByte e) }).congr fun s' _ => by simp [execErrEnc, h]
  | none => exact (actsWithin_raise (.badTag err)).congr fun s' _ => by simp [execErrEnc, h]

theorem actsWithin_classify (body : Bytes 64) (blen : BitVec 7) (s : State) :
    ActsWithin 0x04 false (execClassify body blen) s := by
  by_cases h : blen.toNat = 64
  · exact (actsWithin_respond _).congr fun s' _ => if_pos h
  · exact (actsWithin_raise (.malformedFrame blen)).congr fun s' _ => if_neg h

end Sys2Proof.Machine

/-- The instructions that load a frame where they end ok: the five loads, and the rows of the bodies (log entry 8). -/
def Sys2Proof.Instr.loadsFrame : Instr → Bool
  | .bodyInit _ _ _ _ | .bodyCont _ _ _ => true
  | i => i.isLoad

namespace Sys2Proof.Machine

/-- Every instruction acts by one effect, within the FSTAT bits of its row of 10_state.md R24. -/
theorem exec_actsWithin (i : Instr) (s : State) : ActsWithin i.fstatCanSet i.loadsFrame (exec i) s := by
  cases i with
  | cmdEnc cmd =>
    exact ⟨⟨none, aliasBit cmd, _⟩, fun s' _ => (congrArg _ (Effect.on_noteAlias cmd _ s')).symm, aliasBit_within cmd, rfl⟩
  | errEnc err => exact actsWithin_errEnc err s
  | initNew cid cmd size pay plen =>
    exact actsWithin_buildFrame _ (fun s' => (Effect.on_noteAlias_load cmd _ _ _ s').symm) (aliasBit_within cmd) rfl rfl
  | contNew cid seq pay plen =>
    exact actsWithin_buildFrame _ (fun s' => (Effect.on_load _ _ _ s').symm) BitVec.zero_and rfl rfl
  | initFromWire | contFromWire | rxDemux => exact actsWithin_loadBody rfl
  | bodyInit | bodyCont => exact actsWithin_loadBody rfl fun h => absurd (show (64 : BitVec 7).toNat = 64 from rfl) h
  | initToWire | initCid | initCmd | initSize | initPayload | contToWire | contCid | contSeq | contPayload =>
    exact actsWithin_readFrame (fun _ ⟨hfb, _, _⟩ => by rw [hfb])
  | txMux => exact actsWithin_readFrame (fun _ ⟨hfb, _, hkind⟩ => by rw [hfb, hkind])
  | classify body blen => exact actsWithin_classify body blen s
  | frameInit | frameCont =>
    refine (actsWithin_raise (.malformedFrame 65)).congr fun s' _ => ?_
    simp only [exec, execFrameInit, execFrameCont, presentReport_eq_raise]
  | reserved04 | reserved05 | reserved06 | reserved07 | reserved0F | reserved15 | reserved17 | reserved1B | reserved1C
  | reserved1D | reserved1E | reserved1F => exact actsWithin_raise _
  | faultPayloadTooLarge | faultMalformedFrame | faultNoFrame | faultKindMismatch | faultBadOp | faultBadTag =>
    exact actsWithin_raise _
  | cmdDec | cmdInvalid | cmdPing | cmdMsg | cmdLock | cmdInit | cmdWink | cmdCbor | cmdCancel | cmdKeepalive | cmdError =>
    exact actsWithin_respond _
  | errDec | errInvalidCmd | errInvalidPar | errInvalidLen | errInvalidSeq | errMsgTimeout | errChannelBusy
  | errLockRequired | errNa | errOther => exact actsWithin_respond _
  | kindInit | kindCont => exact actsWithin_respond _

/-- What an instruction answered is its effect on the state. -/
theorem exec_effect {i : Instr} {s t : State} (h : exec i s = .next t) :
    ∃ e : Effect, t = e.on s ∧ (∀ s' t', s.SameFrame s' → exec i s' = .next t' → t' = e.on s') ∧
      e.bits &&& ~~~i.fstatCanSet = 0 ∧ e.loaded.isSome = (i.loadsFrame && e.response.ok_o == 1) := by
  obtain ⟨e, he, hbits, hload⟩ := exec_actsWithin i s
  have answered (s' t' : State) (hs : s.SameFrame s') (ht : exec i s' = .next t') : t' = e.on s' :=
    Host.Outcome.next.inj (ht.symm.trans (he s' hs))
  exact ⟨e, answered s t ⟨rfl, rfl, rfl⟩ h, answered, hbits, hload⟩

/-! ### What a request selects -/

theorem isRequest_decodeRequest (r : Request) : (decodeRequest r).isRequest = true := by
  unfold decodeRequest
  split <;> rfl

/-- A request selects no data format's row, so the loads are all that load a frame for it (30_encoding.md R58, R59). -/
theorem loadsFrame_of_isRequest {i : Instr} (h : i.isRequest = true) : i.loadsFrame = i.isLoad := by
  cases i with
  | bodyInit | bodyCont => exact absurd h (by simp [Instr.isRequest, encode, TableWord.format])
  | _ => rfl

end Sys2Proof.Machine

namespace Sys2Proof

/-- Two requests present the same operation and agree on the ports it uses: for each port, on the operation codes in its
column "used by" (10_state.md R23). -/
structure Request.SameUsedPorts (q r : Request) : Prop where
  op : q.op_i = r.op_i := by rfl
  cid : r.op_i ∈ [0x08, 0x10] → q.cid_i = r.cid_i := by exact fun _ => rfl
  cmd : r.op_i ∈ [0x00, 0x08] → q.cmd_i = r.cmd_i := by exact fun _ => rfl
  err : r.op_i ∈ [0x02] → q.err_i = r.err_i := by exact fun _ => rfl
  size : r.op_i ∈ [0x08] → q.size_i = r.size_i := by exact fun _ => rfl
  seq : r.op_i ∈ [0x10] → q.seq_i = r.seq_i := by exact fun _ => rfl
  pay : r.op_i ∈ [0x08, 0x10] → q.pay_i = r.pay_i := by exact fun _ => rfl
  plen : r.op_i ∈ [0x08, 0x10] → q.plen_i = r.plen_i := by exact fun _ => rfl
  body : r.op_i ∈ [0x09, 0x11, 0x18, 0x19] → q.body_i = r.body_i := by exact fun _ => rfl
  blen : r.op_i ∈ [0x09, 0x11, 0x18, 0x19] → q.blen_i = r.blen_i := by exact fun _ => rfl
  byte : r.op_i ∈ [0x01, 0x03] → q.byte_i = r.byte_i := by exact fun _ => rfl

end Sys2Proof

namespace Sys2Proof.Machine

/-- The instruction a request selects is determined by its operation code and by the ports that operation uses. -/
theorem decodeRequest_eq_of_sameUsedPorts {q r : Request} (h : q.SameUsedPorts r) : decodeRequest q = decodeRequest r := by
  obtain ⟨hop, hcid, hcmd, herr, hsize, hseq, hpay, hplen, hbody, hblen, hbyte⟩ := h
  have uses {n : Nat} {ops : List (BitVec 5)} (hn : r.op_i.toNat = n) (hmem : BitVec.ofNat 5 n ∈ ops) :
      r.op_i ∈ ops := by
    rwa [← hn, BitVec.ofNat_toNat, BitVec.setWidth_eq] at hmem
  unfold decodeRequest
  rw [hop]
  -- One case for each operation code: the twenty-two that no operand port is read for are settled last.
  split
  case h_1 hn => rw [hcmd (uses hn (by decide))]
  case h_2 hn | h_4 hn => rw [hbyte (uses hn (by decide))]
  case h_3 hn => rw [herr (uses hn (by decide))]
  case h_9 hn =>
    rw [hcid (uses hn (by decide)), hcmd (uses hn (by decide)), hsize (uses hn (by decide)), hpay (uses hn (by decide)),
      hplen (uses hn (by decide))]
  case h_17 hn =>
    rw [hcid (uses hn (by decide)), hseq (uses hn (by decide)), hpay (uses hn (by decide)), hplen (uses hn (by decide))]
  case h_10 hn | h_18 hn | h_25 hn | h_26 hn => rw [hbody (uses hn (by decide)), hblen (uses hn (by decide))]
  all_goals rfl

/-! ### The statements -/

/-- Settles O56, from what `step_goes_on` says of the one next state. -/
theorem stepKeepsInvariant : Obligations.StepKeepsInvariant := by
  intro s t hs ht
  obtain ⟨u, hu, -, hinv⟩ := step_goes_on s
  cases hu.symm.trans ht
  exact hinv hs

/-- Settles O10: changing a port that the operation does not use leaves the operation code and the used ports. -/
theorem unnamedPortsAreIgnored : Obligations.UnnamedPortsAreIgnored := fun _ =>
  ⟨fun hunused _ => decodeRequest_eq_of_sameUsedPorts { cid := (absurd · hunused) },
   fun hunused _ => decodeRequest_eq_of_sameUsedPorts { cmd := (absurd · hunused) },
   fun hunused _ => decodeRequest_eq_of_sameUsedPorts { err := (absurd · hunused) },
   fun hunused _ => decodeRequest_eq_of_sameUsedPorts { size := (absurd · hunused) },
   fun hunused _ => decodeRequest_eq_of_sameUsedPorts { seq := (absurd · hunused) },
   fun hunused _ => decodeRequest_eq_of_sameUsedPorts { pay := (absurd · hunused) },
   fun hunused _ => decodeRequest_eq_of_sameUsedPorts { plen := (absurd · hunused) },
   fun hunused _ => decodeRequest_eq_of_sameUsedPorts { body := (absurd · hunused) },
   fun hunused _ => decodeRequest_eq_of_sameUsedPorts { blen := (absurd · hunused) },
   fun hunused _ => decodeRequest_eq_of_sameUsedPorts { byte := (absurd · hunused) }⟩

/-- Settles O39, by the format of the row's word. -/
theorem rowsActAsTheirRequest : Obligations.RowsActAsTheirRequest := by
  intro i q s h
  cases i with
  -- An operation's word is the request itself, and it decodes to the operation.
  | cmdEnc | cmdDec | errEnc | errDec | initNew | initFromWire | initToWire | initCid | initCmd | initSize | initPayload
  | contNew | contFromWire | contToWire | contCid | contSeq | contPayload | classify | rxDemux | txMux
  | reserved04 | reserved05 | reserved06 | reserved07 | reserved0F | reserved15 | reserved17 | reserved1B | reserved1C
  | reserved1D | reserved1E | reserved1F =>
    cases h
    rfl
  -- A report or a body is presented to RX_DEMUX, with its 65 or 64 bytes.
  | frameInit | frameCont | bodyInit | bodyCont =>
    cases h
    rfl
  -- A byte is presented to the decoder of its table.
  | cmdInvalid | cmdPing | cmdMsg | cmdLock | cmdInit | cmdWink | cmdCbor | cmdCancel | cmdKeepalive | cmdError =>
    cases h
    rfl
  | errInvalidCmd | errInvalidPar | errInvalidLen | errInvalidSeq | errMsgTimeout | errChannelBusy | errLockRequired
  | errNa | errOther =>
    cases h
    rfl
  -- No request presents a fault code or a kind bit.
  | faultPayloadTooLarge | faultMalformedFrame | faultNoFrame | faultKindMismatch | faultBadOp | faultBadTag
  | kindInit | kindCont => cases h

/-- Settles O43: the bits an effect sets are within its row's. -/
theorem fstatIsSticky : Obligations.FstatIsSticky := by
  intro i s t h
  obtain ⟨e, rfl, -, hbits, -⟩ := exec_effect h
  exact or_sticky_within hbits

/-- Settles O44: an effect sets VALID where it loads a frame, and of the requests' instructions only loads do. -/
theorem validSetByLoadsAlone : Obligations.ValidSetByLoadsAlone := by
  intro q s t h
  obtain ⟨e, rfl, -, -, hload⟩ := exec_effect h
  rw [loadsFrame_of_isRequest (isRequest_decodeRequest q)] at hload
  simp [Effect.on_valid_iff, hload]

/-- Settles O45: an effect that loads no frame keeps the frame. -/
theorem onlyLoadsWriteFrame : Obligations.OnlyLoadsWriteFrame := by
  intro q s t h hnotLoad
  obtain ⟨e, rfl, -, -, hload⟩ := exec_effect h
  rw [loadsFrame_of_isRequest (isRequest_decodeRequest q), hnotLoad] at hload
  exact Effect.on_sameFrame_of_not_loaded hload s

/-- Settles O48: from the same frame it is the same effect. -/
theorem responseDependsOnFrameAlone : Obligations.ResponseDependsOnFrameAlone := by
  intro i s s' t t' hs h h'
  obtain ⟨e, rfl, hsame, -, -⟩ := exec_effect h
  rw [hsame s' t' hs h']
  exact ⟨rfl, e.on_sameFrame hs⟩

/-- Settles O57. -/
theorem resetHasInvariant : Obligations.ResetHasInvariant := State.inv_reset

/-- Settles O4. -/
theorem resetValues : Obligations.ResetValues :=
  ⟨fun a ha => by simp [byteAt_eq_getElem _ a ha, State.reset], rfl, rfl, rfl⟩

end Sys2Proof.Machine
end

section
/-! PROOFS. What operations repeat and share: the bytes a constructor takes of its payload, what a read leaves, what doing an
operation again leaves, and what a step of one framer leaves of the others (20_memory.md R38, R39, R43). -/

namespace Sys2Proof.Machine

/-! ### Payload bytes (20_memory.md R39) -/

/-- The data region sees the payload below `plen` alone. -/
theorem dataByte_congr {pay pay' : Bytes 59} {plen : BitVec 6} (h : ∀ j, j < plen.toNat → byteAt pay j = byteAt pay' j) :
    dataByte pay plen = dataByte pay' plen :=
  funext fun j => ite_congr rfl (h j) fun _ => rfl

/-! ### Reads (45_operation_set.md R99) -/

/-- A reading operation is a read of FB that requires its kind. -/
theorem exec_of_readsAs {i : Instr} {want : Option Kind} (h : i.readsAs = some want) :
    ∃ answer, exec i = readFrame want answer := by
  cases i with
  | initToWire | initCid | initCmd | initSize | initPayload | contToWire | contCid | contSeq | contPayload | txMux =>
    cases h
    exact ⟨_, rfl⟩
  | _ => cases h

/-- A read that ends ok leaves a response and nothing else, since one that faults says so in `ok_o`. -/
theorem readFrame_ok {want : Option Kind} {answer : State → Response} {s t : State} (h : readFrame want answer s = .next t)
    (hok : t.response.map Response.ok_o = some 1) : t = s.respond (answer s) := by
  rcases readFrame_cases h with ⟨f, -, rfl⟩ | ⟨-, rfl⟩
  · simp at hok
  · rfl

/-! ### Doing an operation again (20_memory.md R38) -/

/-- An effect loads and sets what it has loaded and set before. -/
theorem Effect.on_on (e : Effect) (s : State) : e.on (e.on s) = e.on s := by
  cases h : e.loaded <;> simp [Effect.on, h, BitVec.or_assoc]

/-- Loading a body looks at the length alone, so its effect is the same from every state. -/
theorem loadBody_effect (kind : Kind) (body : Bytes 64) (blen : BitVec 7) (answer : Response) :
    ∃ e : Effect, ∀ s, loadBody kind body blen answer s = .next (e.on s) := by
  by_cases h : blen.toNat = 64
  · exact ⟨_, fun s => by rw [loadBody_of_length _ _ _ _ h, ← Effect.on_load]⟩
  · exact ⟨_, fun s => by rw [loadBody_of_other_length _ _ _ _ h, ← Effect.on_fault]⟩

/-- Building a frame looks at the payload's length alone, so its effect is the same from every state. -/
theorem buildFrame_effect (limit : Nat) (plen : BitVec 6) {built : State → State} (e : Effect)
    (hbuilt : ∀ s, built s = e.on s) : ∃ e' : Effect, ∀ s, buildFrame limit plen (built s) s = .next (e'.on s) := by
  by_cases h : limit < plen.toNat
  · exact ⟨_, fun s => by rw [buildFrame_of_long _ _ h, ← Effect.on_fault]⟩
  · exact ⟨e, fun s => by rw [buildFrame_of_fits _ _ (not_lt.mp h), hbuilt]⟩

/-- What a load does is in its operands, and nothing of it in the state. -/
theorem exec_effect_of_loadsFrame {i : Instr} (h : i.loadsFrame = true) : ∃ e : Effect, ∀ s, exec i s = .next (e.on s) := by
  cases i with
  | initNew cid cmd size pay plen =>
    exact buildFrame_effect _ _ _ fun s => (Effect.on_noteAlias_load cmd _ _ _ s).symm
  | contNew cid seq pay plen => exact buildFrame_effect _ _ _ fun s => (Effect.on_load _ _ _ s).symm
  | initFromWire | contFromWire | rxDemux => exact loadBody_effect _ _ _ _
  | bodyInit | bodyCont => exact loadBody_effect _ _ 64 _
  | _ => cases h

/-- An instruction done again leaves the state as it is: a load has the same effect from every state, and after any other
instruction the frame, and with it the effect, is the same. -/
theorem exec_again {i : Instr} {s t : State} (h : exec i s = .next t) : exec i t = .next t := by
  obtain ⟨e, hs, ht⟩ : ∃ e : Effect, exec i s = .next (e.on s) ∧ exec i (e.on s) = .next (e.on (e.on s)) := by
    cases hloads : i.loadsFrame with
    | true =>
      obtain ⟨e, he⟩ := exec_effect_of_loadsFrame hloads
      exact ⟨e, he s, he _⟩
    | false =>
      obtain ⟨e, he, -, hload⟩ := exec_actsWithin i s
      obtain ⟨hfb, hvalid, hkind⟩ := Effect.on_sameFrame_of_not_loaded (e := e) (by simpa [hloads] using hload) s
      exact ⟨e, he s ⟨rfl, rfl, rfl⟩, he _ ⟨hfb.symm, hvalid.symm, hkind.symm⟩⟩
  obtain rfl := Host.Outcome.next.inj (h.symm.trans hs)
  rwa [e.on_on] at ht

/-! ### Several instances (20_memory.md R43) -/

/-- A number beyond the system steps nothing. -/
theorem stepAt_of_none {k : Nat} {system : List State} (h : system[k]? = none) : stepAt k system = system := by
  simp [stepAt, h]

theorem stepAt_of_next {k : Nat} {system : List State} {s t : State} (hs : system[k]? = some s) (ht : step s = .next t) :
    stepAt k system = system.set k t := by
  simp [stepAt, hs, ht]

/-! ### The statements -/

/-- Settles O20: both constructors use the payload through `dataByte`. -/
theorem payloadTailIgnored : Obligations.PayloadTailIgnored := by
  intro pay pay' plen s h
  have hdata := dataByte_congr h
  exact ⟨fun cid cmd size => by simp only [exec, execInitNew, hdata], fun cid seq => by simp only [exec, execContNew, hdata]⟩

/-- Settles O46. -/
theorem readsChangeNothing : Obligations.ReadsChangeNothing := by
  intro i s t hreads h hok
  obtain ⟨want, hwant⟩ := Option.ne_none_iff_exists'.mp hreads
  obtain ⟨answer, hread⟩ := exec_of_readsAs hwant
  rw [hread] at h
  rw [readFrame_ok h hok]
  exact ⟨⟨rfl, rfl, rfl, rfl⟩, rfl⟩

/-- Settles O47. -/
theorem operationsAreIdempotent : Obligations.OperationsAreIdempotent := by
  intro i s
  obtain ⟨t, ht, -⟩ := exec_answer i s
  rw [exec2, ht]
  exact congrArg nextState (exec_again ht)

/-- Settles O59: a step always answers a next state, so the system changes at `k` and there alone. -/
theorem instancesShareNothing : Obligations.InstancesShareNothing := by
  intro k system
  cases hs : system[k]? with
  | none => simp [stepAt_of_none hs]
  | some s =>
    obtain ⟨t, ht, -⟩ := step_goes_on s
    obtain ⟨hk, -⟩ := List.getElem?_eq_some_iff.mp hs
    rw [stepAt_of_next hs ht]
    refine ⟨List.length_set, fun j hj => List.getElem?_set_ne hj.symm, fun s' hs' => ?_⟩
    cases hs'
    exact ⟨t, ht, List.getElem?_set_self hk⟩

end Sys2Proof.Machine
end

section
/-! PROOFS. The decoder and the encoder on every format (30_encoding.md R46 to R59, 60_exceptions.md R102): what the word of
a row decodes to, and what the row of a decoded word is encoded as. -/

namespace Sys2Proof.Machine

/-! ### Operation codes (30_encoding.md R57 to R59) -/

/-- An operation code is its group and its function. -/
theorem op_toNat_eq (op : BitVec 5) : op.toNat = 8 * (opGroup op).toNat + (opFunction op).toNat := by
  simp only [opGroup, opFunction, BitVec.extractLsb'_toNat, Nat.shiftRight_eq_div_pow]
  omega

/-- The functions that each group leaves unused. -/
theorem reservedOp_iff (op : BitVec 5) : reservedOp op = true ↔
    ((opGroup op).toNat = 0 ∧ 4 ≤ (opFunction op).toNat) ∨ ((opGroup op).toNat = 1 ∧ (opFunction op).toNat = 7) ∨
      ((opGroup op).toNat = 2 ∧ ((opFunction op).toNat = 5 ∨ (opFunction op).toNat = 7)) ∨
      ((opGroup op).toNat = 3 ∧ 3 ≤ (opFunction op).toNat) := by
  revert op; decide

/-! ### Reports and bodies (30_encoding.md R46 to R49) -/

/-- The kind of a body is read off the type byte of the frame it is taken from. -/
@[simp] theorem bodyKind_bodyOf (v : Bytes 65) : bodyKind (bodyOf v) = kindOf (typeField v) :=
  congrArg kindOf (byteAt_bodyOf v 4 (by omega))

theorem decodeReport_initFrame (cid : Bytes 4) {type : Byte} (size : BitVec 16) (data : Bytes 57)
    (h : kindOf type = .init) :
    decodeReport (initFrame cid type size (byteAt data)) = .ok (.frameInit cid (lowSeven type) size data) := by
  simp [decodeReport, h]

theorem decodeReport_contFrame (cid : Bytes 4) {type : Byte} (data : Bytes 59) (h : kindOf type = .cont) :
    decodeReport (contFrame cid type (byteAt data)) = .ok (.frameCont cid (lowSeven type) data) := by
  simp [decodeReport, h]

theorem decodeBody_initFrame (cid : Bytes 4) {type : Byte} (size : BitVec 16) (data : Bytes 57)
    (h : kindOf type = .init) :
    decodeBody (bodyOf (initFrame cid type size (byteAt data))) = .bodyInit cid (lowSeven type) size data := by
  simp [decodeBody, frameOfBody_bodyOf, h]

theorem decodeBody_contFrame (cid : Bytes 4) {type : Byte} (data : Bytes 59) (h : kindOf type = .cont) :
    decodeBody (bodyOf (contFrame cid type (byteAt data))) = .bodyCont cid (lowSeven type) data := by
  simp [decodeBody, frameOfBody_bodyOf, h]

/-- The fields that an init row carries are the whole frame: its type byte keeps seven bits, and bit 7 is known. -/
theorem initFrame_of_rowFields {v : Bytes 65} (hrid : byteAt v 0 = 0) (hkind : kindOf (typeField v) = .init) :
    initFrame (cidField v) (initTypeByte ((lowSeven (typeField v)).setWidth 8)) (bcntField v)
      (byteAt (initDataField v)) = v := by
  rw [initTypeByte_lowSeven hkind, initFrame_of_fields hrid]

/-- The fields that a continuation row carries are the whole frame. -/
theorem contFrame_of_rowFields {v : Bytes 65} (hrid : byteAt v 0 = 0) (hkind : kindOf (typeField v) = .cont) :
    contFrame (cidField v) ((lowSeven (typeField v)).setWidth 8) (byteAt (contDataField v)) = v := by
  rw [setWidth_lowSeven hkind, contFrame_of_fields hrid]

theorem encode_of_decodeReport {v : Bytes 65} {i : Instr} (h : decodeReport v = .ok i) : encode i = .report v := by
  unfold decodeReport at h
  split at h
  · cases h
  · next hrid =>
    split at h <;> cases h
    · exact congrArg TableWord.report (initFrame_of_rowFields (not_not.mp hrid) ‹_›)
    · exact congrArg TableWord.report (contFrame_of_rowFields (not_not.mp hrid) ‹_›)

theorem encode_decodeBody (b : Bytes 64) : encode (decodeBody b) = .body b := by
  have hrid := byteAt_frameOfBody_rid b
  have hkind : bodyKind b = kindOf (typeField (frameOfBody b)) := by rw [← bodyKind_bodyOf, bodyOf_frameOfBody]
  unfold decodeBody
  split
  · rw [encode, initFrame_of_rowFields hrid (hkind ▸ ‹_›), bodyOf_frameOfBody]
  · rw [encode, contFrame_of_rowFields hrid (hkind ▸ ‹_›), bodyOf_frameOfBody]

/-! ### Command bytes and error bytes (30_encoding.md R51, R52) -/

@[simp] theorem encode_commandRow (c : CommandCode) : encode (commandRow c) = .cmdByte (commandByte c) := by
  cases c <;> rfl

@[simp] theorem encode_errorRow (e : ErrorCode) : encode (errorRow e) = .errByte (errorByte e) := by
  cases e <;> rfl

theorem decode_commandByte (c : CommandCode) : decode (.cmdByte (commandByte c)) = .ok (commandRow c) := by
  simp [decode]

theorem decode_errorByte (e : ErrorCode) : decode (.errByte (errorByte e)) = .ok (errorRow e) := by
  simp [decode]

theorem command_of_decode_cmdByte {b : Byte} {i : Instr} (h : decode (.cmdByte b) = .ok i) :
    ∃ c, commandByte c = b ∧ commandRow c = i := by
  cases hb : commandOfByte b with
  | none => simp [decode, hb] at h
  | some c => exact ⟨c, commandByte_of_commandOfByte hb, by simpa [decode, hb] using h⟩

theorem error_of_decode_errByte {b : Byte} {i : Instr} (h : decode (.errByte b) = .ok i) :
    ∃ e, errorByte e = b ∧ errorRow e = i := by
  cases hb : errorOfByte b with
  | none => simp [decode, hb] at h
  | some e => exact ⟨e, errorByte_of_errorOfByte hb, by simpa [decode, hb] using h⟩

/-! ### Kind bits (30_encoding.md R56) -/

@[simp] theorem kindOfBit_kindBit (k : Kind) : kindOfBit (kindBit k) = k := by
  cases k <;> rfl

@[simp] theorem kindBit_kindOfBit (b : BitVec 1) : kindBit (kindOfBit b) = b := by
  revert b; decide

theorem encode_of_decode_kindBit {b : BitVec 1} {i : Instr} (h : decode (.kindBit b) = .ok i) : encode i = .kindBit b := by
  obtain ⟨k, rfl⟩ : ∃ k, kindBit k = b := ⟨kindOfBit b, kindBit_kindOfBit b⟩
  cases k <;>
  · cases h
    rfl

/-! ### Fault codes (60_exceptions.md R102)

The `info` beside a fault code stands in 7 bits, and the decoder takes it where it fits the width of the fault's own. -/

theorem wellFormedOnly_eq_ok {i j : Instr} : wellFormedOnly i = .ok j ↔ i.wf = true ∧ i = j := by
  unfold wellFormedOnly
  split <;> simp_all

/-- An `info` that fits `n` bits is some `n`-bit operand widened, and the row decoded is the one of that operand. -/
theorem wellFormedOnly_setWidth_eq_ok {n : Nat} (hn : n ≤ 7) {row : BitVec n → Instr} {info : BitVec 7} {i : Instr} :
    (if info.toNat < 2 ^ n then wellFormedOnly (row (info.setWidth n)) else .error .faultInfo) = .ok i ↔
      ∃ x : BitVec n, x.setWidth 7 = info ∧ row x = i ∧ i.wf = true := by
  constructor
  · intro h
    split at h
    · next hfits =>
      obtain ⟨hwf, rfl⟩ := wellFormedOnly_eq_ok.mp h
      refine ⟨_, BitVec.eq_of_toNat_eq ?_, rfl, hwf⟩
      simp only [BitVec.toNat_setWidth, Nat.mod_eq_of_lt hfits, Nat.mod_eq_of_lt info.isLt]
    · cases h
  · rintro ⟨x, rfl, rfl, hwf⟩
    have hx : x.toNat < 2 ^ 7 := x.isLt.trans_le (Nat.pow_le_pow_right (by omega) hn)
    rw [if_pos (by rw [BitVec.toNat_setWidth, Nat.mod_eq_of_lt hx]; exact x.isLt),
      BitVec.setWidth_setWidth_of_le x hn, BitVec.setWidth_eq]
    exact wellFormedOnly_eq_ok.mpr ⟨hwf, rfl⟩

theorem decodeFault_payloadTooLarge {info : BitVec 7} {i : Instr} :
    decodeFault 1 info = .ok i ↔
      ∃ plen : BitVec 6, plen.setWidth 7 = info ∧ .faultPayloadTooLarge plen = i ∧ i.wf = true :=
  wellFormedOnly_setWidth_eq_ok (n := 6) (by omega)

theorem decodeFault_malformedFrame {blen : BitVec 7} {i : Instr} :
    decodeFault 2 blen = .ok i ↔ (Instr.faultMalformedFrame blen).wf = true ∧ .faultMalformedFrame blen = i :=
  wellFormedOnly_eq_ok

theorem decodeFault_noFrame {info : BitVec 7} {i : Instr} :
    decodeFault 3 info = .ok i ↔ info = 0 ∧ .faultNoFrame = i := by
  show (if info = 0 then Except.ok Instr.faultNoFrame else .error DecodeError.faultInfo) = .ok i ↔ _
  split <;> simp_all

theorem decodeFault_kindMismatch {info : BitVec 7} {i : Instr} :
    decodeFault 4 info = .ok i ↔
      ∃ b : BitVec 1, b.setWidth 7 = info ∧ .faultKindMismatch (kindOfBit b) = i ∧ i.wf = true :=
  wellFormedOnly_setWidth_eq_ok (n := 1) (row := fun b => .faultKindMismatch (kindOfBit b)) (by omega)

theorem decodeFault_badOp {info : BitVec 7} {i : Instr} :
    decodeFault 5 info = .ok i ↔ ∃ op : BitVec 5, op.setWidth 7 = info ∧ .faultBadOp op = i ∧ i.wf = true :=
  wellFormedOnly_setWidth_eq_ok (n := 5) (by omega)

theorem decodeFault_badTag {info : BitVec 7} {i : Instr} :
    decodeFault 6 info = .ok i ↔ ∃ err : BitVec 4, err.setWidth 7 = info ∧ .faultBadTag err = i ∧ i.wf = true :=
  wellFormedOnly_setWidth_eq_ok (n := 4) (by omega)

/-- The codes 0 and 7 are no fault's. -/
theorem faultCode_cases {code : BitVec 3} {info : BitVec 7} {i : Instr} (h : decodeFault code info = .ok i) :
    code = 1 ∨ code = 2 ∨ code = 3 ∨ code = 4 ∨ code = 5 ∨ code = 6 := by
  have hall : code = 0 ∨ code = 7 ∨ code = 1 ∨ code = 2 ∨ code = 3 ∨ code = 4 ∨ code = 5 ∨ code = 6 := by
    clear h; revert code; decide
  rcases hall with rfl | rfl | hcode
  · cases h
  · cases h
  · exact hcode

theorem encode_and_wf_of_decodeFault {code : BitVec 3} {info : BitVec 7} {i : Instr} (h : decodeFault code info = .ok i) :
    encode i = .faultCode code info ∧ i.wf = true := by
  rcases faultCode_cases h with rfl | rfl | rfl | rfl | rfl | rfl
  · obtain ⟨plen, rfl, rfl, hwf⟩ := decodeFault_payloadTooLarge.mp h
    exact ⟨rfl, hwf⟩
  · obtain ⟨hwf, rfl⟩ := decodeFault_malformedFrame.mp h
    exact ⟨rfl, hwf⟩
  · obtain ⟨rfl, rfl⟩ := decodeFault_noFrame.mp h
    exact ⟨rfl, rfl⟩
  · obtain ⟨b, rfl, rfl, hwf⟩ := decodeFault_kindMismatch.mp h
    exact ⟨by rw [encode, kindBit_kindOfBit], hwf⟩
  · obtain ⟨op, rfl, rfl, hwf⟩ := decodeFault_badOp.mp h
    exact ⟨rfl, hwf⟩
  · obtain ⟨err, rfl, rfl, hwf⟩ := decodeFault_badTag.mp h
    exact ⟨rfl, hwf⟩

/-! ### Every format -/

/-- Outside the requests the encoder undoes the decoder: a data word's row carries every bit of it. -/
theorem encode_of_decode {w : TableWord} {i : Instr} (hw : w.format ≠ .op) (h : decode w = .ok i) : encode i = w := by
  cases w with
  | request r => exact absurd rfl hw
  | report v => exact encode_of_decodeReport h
  | body b =>
    cases h
    exact encode_decodeBody b
  | cmdByte b =>
    obtain ⟨c, rfl, rfl⟩ := command_of_decode_cmdByte h
    exact encode_commandRow c
  | errByte b =>
    obtain ⟨e, rfl, rfl⟩ := error_of_decode_errByte h
    exact encode_errorRow e
  | faultCode code info => exact (encode_and_wf_of_decodeFault h).1
  | kindBit b => exact encode_of_decode_kindBit h

/-- The row of a word is encoded in the word's own format. -/
theorem format_encode_of_decode {w : TableWord} {i : Instr} (h : decode w = .ok i) : (encode i).format = w.format := by
  by_cases hw : w.format = .op
  · cases w with
    | request r =>
      cases h
      exact of_decide_eq_true (isRequest_decodeRequest r)
    | _ => cases hw
  · rw [encode_of_decode hw h]

/-- Well-formedness restricts the rows of the fault codes alone. -/
theorem wf_of_format_ne_faultCode {i : Instr} (h : (encode i).format ≠ .faultCode) : i.wf = true := by
  cases i with
  | faultPayloadTooLarge | faultMalformedFrame | faultBadOp | faultBadTag => exact absurd rfl h
  | _ => rfl

/-! ### The statements -/

/-- Settles O5, by the format of the row's word. -/
theorem decodeOfEncode : Obligations.DecodeOfEncode := by
  intro i hwf
  cases i with
  -- The request carries the operation's code and its operands.
  | cmdEnc | cmdDec | errEnc | errDec | initNew | initFromWire | initToWire | initCid | initCmd | initSize | initPayload
  | contNew | contFromWire | contToWire | contCid | contSeq | contPayload | classify | rxDemux | txMux
  | reserved04 | reserved05 | reserved06 | reserved07 | reserved0F | reserved15 | reserved17 | reserved1B | reserved1C
  | reserved1D | reserved1E | reserved1F => rfl
  -- The type byte tells the two layouts apart, and the fields stand in the frame.
  | frameInit cid command size data =>
    rw [encode, decode, decodeReport_initFrame _ _ _ (kindOf_initTypeByte _), lowSeven_initTypeByte]
  | frameCont cid seq data =>
    rw [encode, decode, decodeReport_contFrame _ _ (kindOf_setWidth_seven _), lowSeven_setWidth]
  | bodyInit cid command size data =>
    rw [encode, decode, decodeBody_initFrame _ _ _ (kindOf_initTypeByte _), lowSeven_initTypeByte]
  | bodyCont cid seq data =>
    rw [encode, decode, decodeBody_contFrame _ _ (kindOf_setWidth_seven _), lowSeven_setWidth]
  -- The bytes of a table differ from one another.
  | cmdInvalid | cmdPing | cmdMsg | cmdLock | cmdInit | cmdWink | cmdCbor | cmdCancel | cmdKeepalive | cmdError =>
    exact decode_commandByte _
  | errInvalidCmd | errInvalidPar | errInvalidLen | errInvalidSeq | errMsgTimeout | errChannelBusy | errLockRequired
  | errNa | errOther => exact decode_errorByte _
  -- The `info` of a well-formed row is one the decoder admits.
  | faultPayloadTooLarge plen => exact decodeFault_payloadTooLarge.mpr ⟨plen, rfl, rfl, hwf⟩
  | faultMalformedFrame blen => exact decodeFault_malformedFrame.mpr ⟨hwf, rfl⟩
  | faultNoFrame => exact decodeFault_noFrame.mpr ⟨rfl, rfl⟩
  | faultKindMismatch kind =>
    exact decodeFault_kindMismatch.mpr ⟨kindBit kind, rfl, by rw [kindOfBit_kindBit], hwf⟩
  | faultBadOp op => exact decodeFault_badOp.mpr ⟨op, rfl, rfl, hwf⟩
  | faultBadTag err => exact decodeFault_badTag.mpr ⟨err, rfl, rfl, hwf⟩
  | kindInit | kindCont => rfl

/-- Settles O6. -/
theorem encodeOfDecodedDataWord : Obligations.EncodeOfDecodedDataWord := fun _ _ => encode_of_decode

/-- Settles O7: the fault codes are where the decoder has something to check. -/
theorem decodedIsWellFormed : Obligations.DecodedIsWellFormed := by
  intro w i h
  cases w with
  | faultCode code info => exact (encode_and_wf_of_decodeFault h).2
  | _ => exact wf_of_format_ne_faultCode (by rw [format_encode_of_decode h]; nofun)

/-- Settles O9: a group and a function make one code, and the pairs outside the table are the reserved codes. -/
theorem operationCodesSelectOperations : Obligations.OperationCodesSelectOperations := by
  intro r
  split
  -- No pair of the table: the group leaves the function unused.
  case h_21 =>
    have hgroup := (opGroup r.op_i).isLt
    have hfunction := (opFunction r.op_i).isLt
    grind [reservedOp_iff]
  all_goals
    next hgroup hfunction => simp only [decodeRequest, op_toNat_eq, hgroup, hfunction]

/-- Settles O8. -/
theorem sampleWordsDecode : Obligations.SampleWordsDecode :=
  ⟨rfl, rfl, rfl, rfl, decode_commandByte .keepalive, decode_errorByte .na, rfl, rfl⟩

end Sys2Proof.Machine
end
section
/-! PROOFS. What the reserved operation codes answer (30_encoding.md R59, 60_exceptions.md R107), and the rows of the data
formats (log entries 8 and 11). -/

namespace Sys2Proof.Machine

/-! ### Reserved operation codes -/

/-- The rows of the twelve codes of `reservedOps`, in the same order. -/
def reservedRows : List Instr :=
  [.reserved04, .reserved05, .reserved06, .reserved07, .reserved0F, .reserved15, .reserved17, .reserved1B, .reserved1C,
    .reserved1D, .reserved1E, .reserved1F]

/-- The twelve rows are what requests with the twelve codes select, whatever stands on the other ports. -/
theorem decodeRequest_mem_reservedRows {q : Request} (h : q.op_i ∈ reservedOps) : decodeRequest q ∈ reservedRows := by
  simp only [reservedOps, List.mem_cons, List.not_mem_nil, or_false] at h
  rcases h with h | h | h | h | h | h | h | h | h | h | h | h <;> simp [decodeRequest, reservedRows, h]

theorem exec_reservedRow {i : Instr} (h : i ∈ reservedRows) : ∃ op, exec i = raise (.badOp op) := by
  simp only [reservedRows, List.mem_cons, List.not_mem_nil, or_false] at h
  rcases h with rfl | rfl | rfl | rfl | rfl | rfl | rfl | rfl | rfl | rfl | rfl | rfl <;> exact ⟨_, rfl⟩

theorem raise_badOp (op : BitVec 5) (s : State) :
    raise (.badOp op) s = .next { s with fstat := s.fstat ||| 0x20, response := some (faultResponse (.badOp op)) } := rfl

/-! ### Body rows (30_encoding.md R48, 44_mux_demux.md R93) -/

/-- A body taken from a frame loads that frame again, as the kind its type byte says. -/
theorem demuxBody_bodyOf {v : Bytes 65} {k : Kind} (hrid : byteAt v 0 = 0) (hkind : kindOf (typeField v) = k) (s : State) :
    demuxBody (bodyOf v) 64 s = .next { s with
      fb := v, valid := true, kind := k, response := some { okResponse with kind_o := some (kindBit k) } } := by
  rw [demuxBody, bodyKind_bodyOf, hkind, loadBody_of_length _ _ _ _ rfl, frameOfBody_bodyOf hrid]
  rfl

theorem initTypeByte_toNat (command : BitVec 7) : (initTypeByte (command.setWidth 8)).toNat = 128 + command.toNat := by
  revert command; decide

theorem highByte_lowByte_toNat (size : BitVec 16) : (highByte size).toNat * 256 + (lowByte size).toNat = size.toNat := by
  rw [← be16_toNat, be16_split]

/-! ### Command byte rows and error byte rows (41_codes.md R64, R66) -/

theorem exec_commandRow (c : CommandCode) (s : State) : exec (commandRow c) s =
    .next (s.respond { okResponse with cmd_o := some (commandTag c), found_o := some 1 }) := by
  have hanswer : exec (commandRow c) s = answerCommandByte (commandByte c) s := by cases c <;> rfl
  rw [hanswer, answerCommandByte, cmdOfByte, commandOfByte_commandByte]

theorem exec_errorRow (e : ErrorCode) (s : State) : exec (errorRow e) s =
    .next (s.respond { okResponse with err_o := some (errorTag e), found_o := some 1 }) := by
  have hanswer : exec (errorRow e) s = answerErrorByte (errorByte e) s := by cases e <;> rfl
  rw [hanswer, answerErrorByte, errOfByte, errorOfByte_errorByte]

/-! ### The statements -/

/-- Settles O32: a request with a reserved code selects one of the twelve rows, and each of them raises BadOp. -/
theorem reservedCodesRaiseBadOp : Obligations.ReservedCodesRaiseBadOp := by
  have hrows (s : State) (i : Instr) (hi : i ∈ reservedRows) : ∃ r : Response,
      exec i s = .next { s with fstat := s.fstat ||| 0x20, response := some r } ∧ r.isFault 5 := by
    obtain ⟨op, hop⟩ := exec_reservedRow hi
    exact ⟨_, by rw [hop, raise_badOp], rfl, rfl⟩
  exact ⟨fun q s hq => hrows s _ (decodeRequest_mem_reservedRows hq), hrows⟩

/-- Settles O35: the row's frame is loaded, and its bytes are the fields by the laws of the two layouts. -/
theorem bodyRowsLoadFrame : Obligations.BodyRowsLoadFrame := by
  constructor
  · intro cid command size data s
    refine ⟨_, _, demuxBody_bodyOf (byteAt_initFrame_rid _ _ _ _) (by simp) s, ⟨rfl, rfl⟩, rfl,
      byteAt_initFrame_rid _ _ _ _, byteAt_initFrame_cid _ _ _ _, ?type, ?bcnt, byteAt_initFrame_data _ _ _ _⟩
    case type => rw [byteAt_initFrame_type, initTypeByte_toNat]
    case bcnt => rw [byteAt_initFrame_bcnt_high, byteAt_initFrame_bcnt_low, highByte_lowByte_toNat]
  · intro cid seq data s
    refine ⟨_, _, demuxBody_bodyOf (byteAt_contFrame_rid _ _ _) (by simp) s, ⟨rfl, rfl⟩, rfl,
      byteAt_contFrame_rid _ _ _, byteAt_contFrame_cid _ _ _, ?type, byteAt_contFrame_data _ _ _⟩
    case type => rw [byteAt_contFrame_type, BitVec.toNat_setWidth_of_le (by omega)]

/-- Settles O33: the ten pairs are each command's row and its tag. -/
theorem commandByteRowsAnswerTag : Obligations.CommandByteRowsAnswerTag := by
  intro s p hp
  obtain ⟨c, -, rfl⟩ := List.mem_map.mp (show p ∈ allCommands.map fun c => (commandRow c, commandTag c) from hp)
  exact ⟨_, exec_commandRow c s, ⟨rfl, rfl⟩, rfl, rfl⟩

/-- Settles O34: the nine pairs are each error's row and its tag. -/
theorem errorByteRowsAnswerTag : Obligations.ErrorByteRowsAnswerTag := by
  intro s p hp
  obtain ⟨e, -, rfl⟩ := List.mem_map.mp (show p ∈ allErrors.map fun e => (errorRow e, errorTag e) from hp)
  exact ⟨_, exec_errorRow e s, ⟨rfl, rfl⟩, rfl, rfl⟩

/-- Settles O38. -/
theorem kindRowsAnswerKind : Obligations.KindRowsAnswerKind := by
  intro s p hp
  rcases List.mem_pair.mp hp with rfl | rfl <;> exact ⟨_, rfl, ⟨rfl, rfl⟩, rfl⟩

end Sys2Proof.Machine
end

section
/-! PROOFS. The code operations and the two code tables (41_codes.md R63 to R72): each table in both directions, first on the
variants it holds and then on what it leaves out. -/

namespace Sys2Proof.Machine

/-! ### Tags and what they name (30_encoding.md R54, R55) -/

/-- A command tag is a variant's tag, or one of the tags 10 to 15 that name none. -/
theorem commandTag_cases (t : BitVec 4) : (∃ c, commandTag c = t) ∨ (10 ≤ t.toNat ∧ commandOfTag t = none) := by
  cases h : commandOfTag t with
  | some c => exact .inl ⟨c, by simpa [commandOfTag] using List.find?_some h⟩
  | none => exact .inr ⟨by revert t; decide, rfl⟩

/-- An error tag is a variant's tag, or one of the tags 9 to 15 that name none. -/
theorem errorTag_cases (t : BitVec 4) : (∃ e, errorTag e = t) ∨ (9 ≤ t.toNat ∧ errorOfTag t = none) := by
  cases h : errorOfTag t with
  | some e => exact .inl ⟨e, by simpa [errorOfTag] using List.find?_some h⟩
  | none => exact .inr ⟨by revert t; decide, rfl⟩

theorem commandTag_toNat_le (c : CommandCode) : (commandTag c).toNat ≤ 9 := by cases c <;> decide

theorem errorTag_toNat_le (e : ErrorCode) : (errorTag e).toNat ≤ 8 := by cases e <;> decide

theorem exists_commandTag {t : BitVec 4} (h : t.toNat ≤ 9) : ∃ c, commandTag c = t :=
  (commandTag_cases t).resolve_right fun ⟨hge, _⟩ => by omega

theorem exists_errorTag {t : BitVec 4} (h : t.toNat ≤ 8) : ∃ e, errorTag e = t :=
  (errorTag_cases t).resolve_right fun ⟨hge, _⟩ => by omega

theorem commandOfTag_of_unnamed {t : BitVec 4} (h : 10 ≤ t.toNat) : commandOfTag t = none := by
  rcases commandTag_cases t with ⟨c, rfl⟩ | ⟨-, hnone⟩
  · exact absurd (commandTag_toNat_le c) (by omega)
  · exact hnone

theorem errorOfTag_of_unnamed {t : BitVec 4} (h : 9 ≤ t.toNat) : errorOfTag t = none := by
  rcases errorTag_cases t with ⟨e, rfl⟩ | ⟨-, hnone⟩
  · exact absurd (errorTag_toNat_le e) (by omega)
  · exact hnone

/-! ### The command table (R63, R64) -/

@[simp] theorem cmdByte_commandTag (c : CommandCode) : cmdByte (commandTag c) = commandByte c := by simp [cmdByte]

/-- The tags 10 to 15 have the byte of Invalid (90_conflicts.md C1). -/
theorem cmdByte_of_unnamed {t : BitVec 4} (h : 10 ≤ t.toNat) : cmdByte t = commandByte .invalid := by
  simp [cmdByte, commandOfTag_of_unnamed h, commandByte]

/-- Whatever the tag, its byte is in the table. -/
theorem cmdByte_mem_table (t : BitVec 4) : ∃ c, cmdByte t = commandByte c := by
  rcases commandTag_cases t with ⟨c, rfl⟩ | ⟨hge, -⟩
  · exact ⟨c, cmdByte_commandTag c⟩
  · exact ⟨.invalid, cmdByte_of_unnamed hge⟩

theorem cmdAlias_eq (t : BitVec 4) : cmdAlias t = if 10 ≤ t.toNat then 1 else 0 := by
  rcases commandTag_cases t with ⟨c, rfl⟩ | ⟨hge, hnone⟩
  · have hle := commandTag_toNat_le c
    rw [if_neg (by omega), cmdAlias, commandOfTag_commandTag]
  · rw [if_pos hge, cmdAlias, hnone]

@[simp] theorem cmdOfByte_commandByte (c : CommandCode) : cmdOfByte (commandByte c) = (commandTag c, 1) := by
  simp [cmdOfByte]

theorem cmdOfByte_of_unknown {b : Byte} (h : commandOfByte b = none) : cmdOfByte b = (commandTag .invalid, 0) := by
  simp [cmdOfByte, h]

/-- A byte outside the table is none of the ten. -/
theorem toNat_ne_of_commandOfByte_eq_none {b : Byte} (h : commandOfByte b = none) :
    b.toNat ≠ 0x00 ∧ b.toNat ≠ 0x01 ∧ b.toNat ≠ 0x03 ∧ b.toNat ≠ 0x04 ∧ b.toNat ≠ 0x06 ∧ b.toNat ≠ 0x08 ∧
      b.toNat ≠ 0x10 ∧ b.toNat ≠ 0x11 ∧ b.toNat ≠ 0x3B ∧ b.toNat ≠ 0x3F := by
  have hne (c : CommandCode) : b.toNat ≠ (commandByte c).toNat := fun hb => by
    simp [BitVec.eq_of_toNat_eq hb] at h
  exact ⟨hne .invalid, hne .ping, hne .msg, hne .lock, hne .init, hne .wink, hne .cbor, hne .cancel, hne .keepalive,
    hne .error⟩

/-- Every command byte has bit 7 clear, so the marker bit of an init frame's type byte can be put on and masked off. -/
theorem commandByte_marker (c : CommandCode) :
    commandByte c &&& 0x80 = 0 ∧ (0x80 ||| commandByte c) &&& 0x7F = commandByte c := by
  cases c <;> decide

/-! ### The error table (R65, R66) -/

@[simp] theorem errOfByte_errorByte (e : ErrorCode) : errOfByte (errorByte e) = (errorTag e, 1) := by simp [errOfByte]

theorem errOfByte_of_unknown {b : Byte} (h : errorOfByte b = none) : errOfByte b = (15, 0) := by simp [errOfByte, h]

/-- A byte outside the table is none of the nine. -/
theorem toNat_ne_of_errorOfByte_eq_none {b : Byte} (h : errorOfByte b = none) :
    b.toNat ≠ 0x01 ∧ b.toNat ≠ 0x02 ∧ b.toNat ≠ 0x03 ∧ b.toNat ≠ 0x04 ∧ b.toNat ≠ 0x05 ∧ b.toNat ≠ 0x06 ∧
      b.toNat ≠ 0x0A ∧ b.toNat ≠ 0x0B ∧ b.toNat ≠ 0x7F := by
  have hne (e : ErrorCode) : b.toNat ≠ (errorByte e).toNat := fun hb => by
    simp [BitVec.eq_of_toNat_eq hb] at h
  exact ⟨hne .invalidCmd, hne .invalidPar, hne .invalidLen, hne .invalidSeq, hne .msgTimeout, hne .channelBusy,
    hne .lockRequired, hne .na, hne .other⟩

theorem errorByte_injective : Function.Injective errorByte := fun e f h =>
  Option.some.inj (by rw [← errorOfByte_errorByte e, h, errorOfByte_errorByte])

/-! ### The code operations (R67, R69) -/

theorem exec_cmdEnc (cmd : BitVec 4) (s : State) : exec (.cmdEnc cmd) s =
    .next { s with
      fstat := if 10 ≤ cmd.toNat then s.fstat ||| 0x80 else s.fstat
      response := some { okResponse with
        byte_o := some (cmdByte cmd), alias_o := some (if 10 ≤ cmd.toNat then 1 else 0) } } := by
  rw [← fstatAlias_eq, ← cmdAlias_eq]
  rfl

theorem exec_errEnc_errorTag (e : ErrorCode) (s : State) :
    exec (.errEnc (errorTag e)) s = .next (s.respond { okResponse with byte_o := some (errorByte e) }) := by
  simp [exec, execErrEnc]

theorem exec_errEnc_of_badTag {err : BitVec 4} (h : 9 ≤ err.toNat) (s : State) : exec (.errEnc err) s =
    .next { s with fstat := s.fstat ||| 0x40, response := some (faultResponse (.badTag err)) } := by
  simp only [exec, execErrEnc, errorOfTag_of_unnamed h]
  rfl

/-! ### The statements -/

/-- Settles O11: by variant on the tags 0 to 9; on the tags 10 to 15 the table has only its last line. -/
theorem cmdEncAnswersWireByte : Obligations.CmdEncAnswersWireByte := by
  intro cmd s
  refine ⟨_, exec_cmdEnc cmd s, ⟨rfl, rfl⟩, rfl, congrArg some ?_⟩
  rcases commandTag_cases cmd with ⟨c, rfl⟩ | ⟨hge, -⟩
  · rw [cmdByte_commandTag]
    cases c <;> rfl
  · rw [cmdByte_of_unnamed hge]
    split
    case h_11 => rfl
    all_goals omega

/-- Settles O12: a byte in the table is some command's byte; any other byte is none of the ten, which leaves the last line. -/
theorem cmdDecAnswersTag : Obligations.CmdDecAnswersTag := by
  intro b s
  refine ⟨_, rfl, ⟨rfl, rfl⟩, ?_⟩
  cases h : commandOfByte b with
  | some c =>
    obtain rfl := commandByte_of_commandOfByte h
    rw [cmdOfByte_commandByte]
    cases c <;> rfl
  | none =>
    rw [cmdOfByte_of_unknown h]
    have hne := toNat_ne_of_commandOfByte_eq_none h
    split
    case h_11 => rfl
    all_goals omega

/-- Settles O13: by variant on the tags 0 to 8. -/
theorem errEncAnswersWireByte : Obligations.ErrEncAnswersWireByte := by
  refine fun err s => ⟨fun hle => ?_, fun hge => ⟨_, exec_errEnc_of_badTag hge s, rfl, rfl⟩⟩
  obtain ⟨e, rfl⟩ := exists_errorTag hle
  exact ⟨_, exec_errEnc_errorTag e s, ⟨rfl, rfl⟩, congrArg some (by cases e <;> rfl)⟩

/-- Settles O15: a byte in the table is some error's byte; any other byte is none of the nine, which leaves the last line. -/
theorem errDecAnswersTag : Obligations.ErrDecAnswersTag := by
  intro b s
  refine ⟨_, rfl, ⟨rfl, rfl⟩, ?_⟩
  cases h : errorOfByte b with
  | some e =>
    obtain rfl := errorByte_of_errorOfByte h
    rw [errOfByte_errorByte]
    cases e <;> rfl
  | none =>
    rw [errOfByte_of_unknown h]
    have hne := toNat_ne_of_errorOfByte_eq_none h
    split
    case h_10 => rfl
    all_goals omega

/-- Settles O16: each law is a round trip on the variants, carried to tags and bytes. -/
theorem codeTableLaws : Obligations.CodeTableLaws := by
  have roundTrip (t : BitVec 4) (ht : t.toNat ≤ 9) : cmdOfByte (cmdByte t) = (t, 1) := by
    obtain ⟨c, rfl⟩ := exists_commandTag ht
    rw [cmdByte_commandTag, cmdOfByte_commandByte]
  refine ⟨roundTrip, ?unnamed, ?decoded, ?errorOfTag, ?errorOfByte, ?cmdInjective, errorByte_injective, ?marker⟩
  case unnamed =>
    intro t ht
    rw [cmdByte_of_unnamed ht, cmdOfByte_commandByte, commandTag]
  case decoded =>
    intro b
    cases h : commandOfByte b with
    | some c =>
      obtain rfl := commandByte_of_commandOfByte h
      simp
    | none =>
      obtain ⟨hzero, -⟩ := toNat_ne_of_commandOfByte_eq_none h
      rw [cmdOfByte_of_unknown h]
      exact ⟨nofun, fun _ => ⟨rfl, fun hb => hzero (congrArg BitVec.toNat hb)⟩⟩
  case errorOfTag =>
    intro t ht
    obtain ⟨e, rfl⟩ := exists_errorTag ht
    exact ⟨e, errorOfTag_errorTag e, errOfByte_errorByte e⟩
  case errorOfByte =>
    intro b t hfound
    cases h : errorOfByte b with
    | some e =>
      obtain rfl := errorByte_of_errorOfByte h
      obtain ⟨rfl, -⟩ := Prod.mk.inj ((errOfByte_errorByte e).symm.trans hfound)
      exact ⟨e, errorOfTag_errorTag e, rfl⟩
    | none => simp [errOfByte_of_unknown h] at hfound
  case cmdInjective =>
    intro t u ht hu h
    exact congrArg Prod.fst ((roundTrip t ht).symm.trans ((congrArg cmdOfByte h).trans (roundTrip u hu)))
  case marker =>
    intro t
    obtain ⟨c, hc⟩ := cmdByte_mem_table t
    rw [hc]
    exact commandByte_marker c

end Sys2Proof.Machine
end

section
/-! PROOFS. The init frame operations (42_init_frame.md R75 to R82): what INIT_NEW and INIT_FROM_WIRE write, what the five
reads answer, and the round trip of a frame through the wire. -/

namespace Sys2Proof.Machine

/-! ### A read of the frame's own kind (20_memory.md R38) -/

theorem readFrame_of_kind {k : Kind} (answer : State → Response) {s : State} (hvalid : s.valid = true) (hkind : s.kind = k) :
    readFrame (some k) answer s = .next { s with response := some (answer s) } :=
  readFrame_of_frame answer hvalid fun _ hk => hkind.trans (Option.some.inj hk)

/-! ### The fields the reads answer (R79, R81, R82) -/

/-- The 57 data bytes come first on the port. -/
theorem byteAt_initDataOnPort (fb : Bytes 65) {j : Nat} (h : j < 57) : byteAt (initDataOnPort fb) j = byteAt fb (8 + j) := by
  simp [initDataOnPort, h, show j < 59 by omega]

/-- The last two bytes of the port are zero. -/
theorem byteAt_initDataOnPort_tail (fb : Bytes 65) {j : Nat} (hge : 57 ≤ j) (h : j < 59) :
    byteAt (initDataOnPort fb) j = 0x00 := by
  simp [initDataOnPort, h, show ¬ j < 57 by omega]

theorem bcntField_toNat (fb : Bytes 65) : (bcntField fb).toNat = (byteAt fb 6).toNat * 256 + (byteAt fb 7).toNat :=
  be16_toNat _ _

theorem initTypeByte_bit7 (b : Byte) : (initTypeByte b).getLsbD 7 = true := by simp [initTypeByte]

/-- A tag that names a variant comes back from its byte, and the tags 10 to 15 come back as Invalid (90_conflicts.md C1). -/
theorem cmdOfByte_cmdByte (t : BitVec 4) : cmdOfByte (cmdByte t) = (if t.toNat ≤ 9 then t else 0, 1) := by
  rcases commandTag_cases t with ⟨c, rfl⟩ | ⟨hge, -⟩
  · rw [cmdByte_commandTag, cmdOfByte_commandByte, if_pos (commandTag_toNat_le c)]
  · rw [cmdByte_of_unnamed hge, cmdOfByte_commandByte, if_neg (by omega), commandTag]

/-- The marker bit of a built frame's type byte is masked off before the command is looked up. -/
theorem commandField_initFrame (cid : Bytes 4) (cmd : BitVec 4) (size : BitVec 16) (data : Nat → Byte) :
    commandField (initFrame cid (initTypeByte (cmdByte cmd)) size data) = (if cmd.toNat ≤ 9 then cmd else 0, 1) := by
  obtain ⟨c, hc⟩ := cmdByte_mem_table cmd
  have hmask : initTypeByte (cmdByte cmd) &&& 0x7F = cmdByte cmd := by
    rw [hc]
    exact (commandByte_marker c).2
  rw [commandField, typeField_initFrame, ← cmdOfByte_cmdByte]
  exact congrArg cmdOfByte hmask

/-! ### The two loads (R75, R76) -/

theorem State.load_respond (s : State) (k : Kind) (v : Bytes 65) (r : Response) :
    (s.load k v).respond r = { s with fb := v, valid := true, kind := k, response := some r } := rfl

theorem exec_initNew_of_fits {plen : BitVec 6} (h : plen.toNat ≤ 57) (cid : Bytes 4) (cmd : BitVec 4) (size : BitVec 16)
    (pay : Bytes 59) (s : State) : exec (.initNew cid cmd size pay plen) s =
      .next { s with
        fb := initFrame cid (initTypeByte (cmdByte cmd)) size (dataByte pay plen)
        valid := true
        kind := .init
        fstat := if 10 ≤ cmd.toNat then s.fstat ||| 0x80 else s.fstat
        response := some { okResponse with alias_o := some (if 10 ≤ cmd.toNat then 1 else 0) } } := by
  rw [exec, execInitNew, buildFrame_of_fits _ _ (by simpa using h), State.load_respond, cmdAlias_eq, ← fstatAlias_eq]
  rfl

theorem exec_initNew_of_long {plen : BitVec 6} (h : 57 < plen.toNat) (cid : Bytes 4) (cmd : BitVec 4) (size : BitVec 16)
    (pay : Bytes 59) (s : State) : exec (.initNew cid cmd size pay plen) s =
      .next { s with fstat := s.fstat ||| 0x02, response := some (faultResponse (.payloadTooLarge plen)) } := by
  rw [exec, execInitNew, buildFrame_of_long _ _ (by simpa using h)]
  rfl

theorem exec_initFromWire_of_length {blen : BitVec 7} (h : blen.toNat = 64) (body : Bytes 64) (s : State) :
    exec (.initFromWire body blen) s =
      .next { s with fb := frameOfBody body, valid := true, kind := .init, response := some okResponse } := by
  rw [exec, execInitFromWire, loadBody_of_length _ _ _ _ h, State.load_respond]

theorem exec_initFromWire_of_other_length {blen : BitVec 7} (h : blen.toNat ≠ 64) (body : Bytes 64) (s : State) :
    exec (.initFromWire body blen) s =
      .next { s with fstat := s.fstat ||| 0x04, response := some (faultResponse (.malformedFrame blen)) } := by
  rw [exec, execInitFromWire, loadBody_of_other_length _ _ _ _ h]
  rfl

/-- The body of a frame whose report-ID slot is 0x00 loads that frame. -/
theorem exec_initFromWire_bodyOf {v : Bytes 65} (h : byteAt v 0 = 0) (s : State) : exec (.initFromWire (bodyOf v) 64) s =
    .next { s with fb := v, valid := true, kind := .init, response := some okResponse } := by
  rw [exec_initFromWire_of_length rfl, frameOfBody_bodyOf h]

/-! ### The five reads, of an init frame (R77 to R81) -/

section
variable {s : State} (hvalid : s.valid = true) (hkind : s.kind = .init)
include hvalid hkind

theorem exec_initToWire_of_frame :
    exec .initToWire s = .next { s with response := some { okResponse with report_o := some s.fb } } := by
  rw [exec, execInitToWire, readFrame_of_kind _ hvalid hkind]

theorem exec_initCid_of_frame :
    exec .initCid s = .next { s with response := some { okResponse with cid_o := some (cidField s.fb) } } := by
  rw [exec, execInitCid, readFrame_of_kind _ hvalid hkind]

theorem exec_initCmd_of_frame : exec .initCmd s = .next { s with
    response := some { okResponse with cmd_o := some (commandField s.fb).1, found_o := some (commandField s.fb).2 } } := by
  rw [exec, execInitCmd, readFrame_of_kind _ hvalid hkind]

theorem exec_initSize_of_frame :
    exec .initSize s = .next { s with response := some { okResponse with size_o := some (bcntField s.fb) } } := by
  rw [exec, execInitSize, readFrame_of_kind _ hvalid hkind]

theorem exec_initPayload_of_frame : exec .initPayload s = .next { s with
    response := some { okResponse with pay_o := some (initDataOnPort s.fb), paylen_o := some 57 } } := by
  rw [exec, execInitPayload, readFrame_of_kind _ hvalid hkind]

end

/-! ### The statements -/

/-- Settles O17: the bytes are those of the init layout. -/
theorem initNewBuildsFrame : Obligations.InitNewBuildsFrame := by
  refine fun cid cmd size pay plen s => ⟨fun hfits => ?fits, fun hlong => ?long⟩
  case fits =>
    exact ⟨_, _, exec_initNew_of_fits hfits cid cmd size pay s, ⟨rfl, rfl⟩, rfl, byteAt_initFrame_rid _ _ _ _,
      byteAt_initFrame_cid _ _ _ _, byteAt_initFrame_type _ _ _ _, byteAt_initFrame_bcnt_high _ _ _ _,
      byteAt_initFrame_bcnt_low _ _ _ _, byteAt_initFrame_data _ _ _ _⟩
  case long => exact ⟨_, exec_initNew_of_long hlong cid cmd size pay s, rfl, rfl⟩

/-- Settles O21: the length alone decides, and the frame is the body behind a zero report-ID slot. -/
theorem initFromWireLoadsBody : Obligations.InitFromWireLoadsBody := by
  refine fun body blen s => ⟨fun hlength => ?loads, fun hother => ?raises⟩
  case loads =>
    refine ⟨_, _, exec_initFromWire_of_length hlength body s, ⟨rfl, rfl⟩, byteAt_frameOfBody_rid body, fun k hk => ?_⟩
    rw [Nat.add_comm, byteAt_frameOfBody body k hk]
  case raises => exact ⟨_, exec_initFromWire_of_other_length hother body s, rfl, rfl⟩

/-- Settles O27: each read passes `REQUIRE_FRAME` and answers its field. -/
theorem initReadsAnswer : Obligations.InitReadsAnswer := by
  refine fun s hvalid hkind => ⟨?toWire, ?cid, ?cmd, ?size, ?payload⟩
  case toWire => exact ⟨_, exec_initToWire_of_frame hvalid hkind, ⟨rfl, rfl⟩, _, rfl, fun _ _ => rfl⟩
  case cid => exact ⟨_, exec_initCid_of_frame hvalid hkind, ⟨rfl, rfl⟩, _, rfl, fun i hi => byteAt_slice s.fb 1 i hi⟩
  case cmd => exact ⟨_, exec_initCmd_of_frame hvalid hkind, ⟨rfl, rfl⟩, rfl, rfl⟩
  case size => exact ⟨_, exec_initSize_of_frame hvalid hkind, ⟨rfl, rfl⟩, _, rfl, bcntField_toNat s.fb⟩
  case payload =>
    exact ⟨_, exec_initPayload_of_frame hvalid hkind, ⟨rfl, rfl⟩, rfl, _, rfl, fun _ => byteAt_initDataOnPort s.fb,
      byteAt_initDataOnPort_tail s.fb (by decide) (by decide), byteAt_initDataOnPort_tail s.fb (by decide) (by decide)⟩

/-- Settles O50: the receiver's FB is the frame INIT_NEW built, so its reads answer the fields the frame was built from. -/
theorem initRoundTrip : Obligations.InitRoundTrip := by
  intro s s' cid cmd size pay plen hfits
  have hcommand := commandField_initFrame cid cmd size (dataByte pay plen)
  refine ⟨_, _, _, _, _, _, _, _, exec_initNew_of_fits hfits cid cmd size pay s, exec_initToWire_of_frame rfl rfl, rfl,
    exec_initFromWire_bodyOf (byteAt_initFrame_rid _ _ _ _) s', rfl, ?bit7,
    exec_initCid_of_frame rfl rfl, congrArg some (cidField_initFrame _ _ _ _),
    exec_initCmd_of_frame rfl rfl, congrArg (some ∘ Prod.snd) hcommand, congrArg (some ∘ Prod.fst) hcommand,
    exec_initSize_of_frame rfl rfl, congrArg some (bcntField_initFrame _ _ _ _),
    exec_initPayload_of_frame rfl rfl, _, rfl, fun j hj => ?data⟩
  case bit7 => rw [byteAt_initFrame_type, initTypeByte_bit7]
  case data => exact (byteAt_initDataOnPort _ hj).trans (byteAt_initFrame_data _ _ _ _ j hj)

end Sys2Proof.Machine
end

section
/-! PROOFS. The continuation frame operations (43_cont_frame.md R83 to R89): what CONT_NEW and CONT_FROM_WIRE write, what the
four reads answer, and the round trip of a frame through the wire. -/

namespace Sys2Proof.Machine

/-! ### The sequence byte (R89) -/

/-- Bit 7 of a byte is clear exactly in the lower half of its range. -/
theorem bit7_eq_false_iff (b : Byte) : b.getLsbD 7 = false ↔ b.toNat ≤ 127 := by
  have hmsb : b.msb = b.getLsbD 7 := BitVec.msb_eq_getLsbD_last b
  rw [← hmsb, BitVec.msb_eq_false_iff_two_mul_lt]
  omega

/-! ### The two loads (R83, R84) -/

theorem exec_contNew_of_fits {plen : BitVec 6} (h : plen.toNat ≤ 59) (cid : Bytes 4) (seq : Byte) (pay : Bytes 59)
    (s : State) : exec (.contNew cid seq pay plen) s =
      .next { s with
        fb := contFrame cid seq (dataByte pay plen), valid := true, kind := .cont, response := some okResponse } := by
  rw [exec, execContNew, buildFrame_of_fits _ _ (by simpa using h), State.load_respond]

theorem exec_contNew_of_long {plen : BitVec 6} (h : 59 < plen.toNat) (cid : Bytes 4) (seq : Byte) (pay : Bytes 59)
    (s : State) : exec (.contNew cid seq pay plen) s =
      .next { s with fstat := s.fstat ||| 0x02, response := some (faultResponse (.payloadTooLarge plen)) } := by
  rw [exec, execContNew, buildFrame_of_long _ _ (by simpa using h)]
  rfl

theorem exec_contFromWire_of_length {blen : BitVec 7} (h : blen.toNat = 64) (body : Bytes 64) (s : State) :
    exec (.contFromWire body blen) s =
      .next { s with fb := frameOfBody body, valid := true, kind := .cont, response := some okResponse } := by
  rw [exec, execContFromWire, loadBody_of_length _ _ _ _ h, State.load_respond]

theorem exec_contFromWire_of_other_length {blen : BitVec 7} (h : blen.toNat ≠ 64) (body : Bytes 64) (s : State) :
    exec (.contFromWire body blen) s =
      .next { s with fstat := s.fstat ||| 0x04, response := some (faultResponse (.malformedFrame blen)) } := by
  rw [exec, execContFromWire, loadBody_of_other_length _ _ _ _ h]
  rfl

/-- The body of a frame whose report-ID slot is 0x00 loads that frame. -/
theorem exec_contFromWire_bodyOf {v : Bytes 65} (h : byteAt v 0 = 0) (s : State) : exec (.contFromWire (bodyOf v) 64) s =
    .next { s with fb := v, valid := true, kind := .cont, response := some okResponse } := by
  rw [exec_contFromWire_of_length rfl, frameOfBody_bodyOf h]

/-! ### The four reads, of a continuation frame (R85 to R88) -/

section
variable {s : State} (hvalid : s.valid = true) (hkind : s.kind = .cont)
include hvalid hkind

theorem exec_contToWire_of_frame :
    exec .contToWire s = .next { s with response := some { okResponse with report_o := some s.fb } } := by
  rw [exec, execContToWire, readFrame_of_kind _ hvalid hkind]

theorem exec_contCid_of_frame :
    exec .contCid s = .next { s with response := some { okResponse with cid_o := some (cidField s.fb) } } := by
  rw [exec, execContCid, readFrame_of_kind _ hvalid hkind]

theorem exec_contSeq_of_frame :
    exec .contSeq s = .next { s with response := some { okResponse with seq_o := some (typeField s.fb) } } := by
  rw [exec, execContSeq, readFrame_of_kind _ hvalid hkind]

theorem exec_contPayload_of_frame : exec .contPayload s = .next { s with
    response := some { okResponse with pay_o := some (contDataField s.fb), paylen_o := some 59 } } := by
  rw [exec, execContPayload, readFrame_of_kind _ hvalid hkind]

end

theorem byteAt_contDataField (fb : Bytes 65) {j : Nat} (h : j < 59) : byteAt (contDataField fb) j = byteAt fb (6 + j) :=
  byteAt_slice fb 6 j h

/-! ### The statements -/

/-- Settles O18: the bytes are those of the continuation layout. -/
theorem contNewBuildsFrame : Obligations.ContNewBuildsFrame := by
  refine fun cid seq pay plen s => ⟨fun hfits => ?fits, fun hlong => ?long⟩
  case fits =>
    exact ⟨_, _, exec_contNew_of_fits hfits cid seq pay s, ⟨rfl, rfl⟩, byteAt_contFrame_rid _ _ _,
      byteAt_contFrame_cid _ _ _, byteAt_contFrame_type _ _ _, byteAt_contFrame_data _ _ _⟩
  case long => exact ⟨_, exec_contNew_of_long hlong cid seq pay s, rfl, rfl⟩

/-- Settles O22: the length alone decides, and the frame is the body behind a zero report-ID slot. -/
theorem contFromWireLoadsBody : Obligations.ContFromWireLoadsBody := by
  refine fun body blen s => ⟨fun hlength => ?loads, fun hother => ?raises⟩
  case loads =>
    refine ⟨_, _, exec_contFromWire_of_length hlength body s, ⟨rfl, rfl⟩, byteAt_frameOfBody_rid body, fun k hk => ?_⟩
    rw [Nat.add_comm, byteAt_frameOfBody body k hk]
  case raises => exact ⟨_, exec_contFromWire_of_other_length hother body s, rfl, rfl⟩

/-- Settles O28: each read passes `REQUIRE_FRAME` and answers its field. -/
theorem contReadsAnswer : Obligations.ContReadsAnswer := by
  refine fun s hvalid hkind => ⟨?toWire, ?cid, ?seq, ?payload⟩
  case toWire => exact ⟨_, exec_contToWire_of_frame hvalid hkind, ⟨rfl, rfl⟩, _, rfl, fun _ _ => rfl⟩
  case cid => exact ⟨_, exec_contCid_of_frame hvalid hkind, ⟨rfl, rfl⟩, _, rfl, fun i hi => byteAt_slice s.fb 1 i hi⟩
  case seq => exact ⟨_, exec_contSeq_of_frame hvalid hkind, ⟨rfl, rfl⟩, rfl⟩
  case payload =>
    exact ⟨_, exec_contPayload_of_frame hvalid hkind, ⟨rfl, rfl⟩, rfl, _, rfl, fun _ => byteAt_contDataField s.fb⟩

/-- Settles O51: the receiver's FB is the frame CONT_NEW built, so its reads answer the fields the frame was built from. -/
theorem contRoundTrip : Obligations.ContRoundTrip := by
  intro s s' cid seq pay plen hfits
  refine ⟨_, _, _, _, _, _, _, exec_contNew_of_fits hfits cid seq pay s, exec_contToWire_of_frame rfl rfl, rfl,
    exec_contFromWire_bodyOf (byteAt_contFrame_rid _ _ _) s', rfl, ?bit7,
    exec_contCid_of_frame rfl rfl, congrArg some (cidField_contFrame _ _ _),
    exec_contSeq_of_frame rfl rfl, congrArg some (typeField_contFrame _ _ _),
    exec_contPayload_of_frame rfl rfl, _, rfl, fun j hj => ?data⟩
  case bit7 => rw [byteAt_contFrame_type, bit7_eq_false_iff]
  case data => exact (byteAt_contDataField _ hj).trans (byteAt_contFrame_data _ _ _ j hj)

end Sys2Proof.Machine
end

section
/-! PROOFS. The frame-kind multiplexer and demultiplexer (44_mux_demux.md R91 to R96): what CLASSIFY, RX_DEMUX and TX_MUX
answer, RX_DEMUX as CLASSIFY and then a FROM_WIRE, how built frames classify, and a frame emitted and taken back. -/

namespace Sys2Proof.Machine

/-! ### The kind of a type byte and of a body (R91) -/

/-- A type byte names INIT exactly in the upper half of its range, where its bit 7 is set. -/
theorem kindOf_eq (b : Byte) : kindOf b = if 128 ≤ b.toNat then .init else .cont := by
  by_cases hlow : b.toNat ≤ 127
  · rw [kindOf, (bit7_eq_false_iff b).mpr hlow, if_neg (by decide), if_neg (by omega)]
  · rw [kindOf, Bool.eq_true_of_not_eq_false (mt (bit7_eq_false_iff b).mp hlow), if_pos rfl, if_pos (by omega)]

theorem bodyKind_eq (body : Bytes 64) : bodyKind body = if 128 ≤ (byteAt body 4).toNat then .init else .cont :=
  kindOf_eq (byteAt body 4)

theorem kindBit_bodyKind (body : Bytes 64) :
    kindBit (bodyKind body) = if 128 ≤ (byteAt body 4).toNat then 0 else 1 := by
  rw [bodyKind_eq, apply_ite kindBit, kindBit, kindBit]

/-! ### CLASSIFY (R92) -/

theorem exec_classify_of_length {blen : BitVec 7} (h : blen.toNat = 64) (body : Bytes 64) (s : State) :
    exec (.classify body blen) s =
      .next { s with response := some { okResponse with kind_o := some (kindBit (bodyKind body)) } } := if_pos h

theorem exec_classify_of_other_length {blen : BitVec 7} (h : blen.toNat ≠ 64) (body : Bytes 64) (s : State) :
    exec (.classify body blen) s =
      .next { s with fstat := s.fstat ||| 0x04, response := some (faultResponse (.malformedFrame blen)) } := if_neg h

/-- The body of a frame classifies by the frame's own type byte. -/
theorem exec_classify_bodyOf (v : Bytes 65) (s : State) : exec (.classify (bodyOf v) 64) s =
    .next { s with response := some { okResponse with kind_o := some (kindBit (kindOf (typeField v))) } } := by
  rw [exec_classify_of_length rfl, bodyKind_bodyOf]

/-! ### RX_DEMUX (R93) -/

theorem exec_rxDemux_of_length {blen : BitVec 7} (h : blen.toNat = 64) (body : Bytes 64) (s : State) :
    exec (.rxDemux body blen) s = .next { s with
      fb := frameOfBody body, valid := true, kind := bodyKind body
      response := some { okResponse with kind_o := some (kindBit (bodyKind body)) } } := by
  rw [exec, execRxDemux, demuxBody, loadBody_of_length _ _ _ _ h, State.load_respond]

theorem exec_rxDemux_of_other_length {blen : BitVec 7} (h : blen.toNat ≠ 64) (body : Bytes 64) (s : State) :
    exec (.rxDemux body blen) s =
      .next { s with fstat := s.fstat ||| 0x04, response := some (faultResponse (.malformedFrame blen)) } := by
  rw [exec, execRxDemux, demuxBody, loadBody_of_other_length _ _ _ _ h]
  rfl

/-- The body of a frame whose report-ID slot is 0x00 loads that frame, as the kind its type byte says. -/
theorem exec_rxDemux_bodyOf {v : Bytes 65} (h : byteAt v 0 = 0) (s : State) : exec (.rxDemux (bodyOf v) 64) s =
    .next { s with
      fb := v, valid := true, kind := kindOf (typeField v)
      response := some { okResponse with kind_o := some (kindBit (kindOf (typeField v))) } } :=
  demuxBody_bodyOf h rfl s

/-- The FROM_WIRE that a kind bit asks for loads the body as the kind that the bit stands for. -/
theorem exec_fromWire_of_kind (k : Kind) (body : Bytes 64) (s : State) :
    exec (if some (kindBit k) = some 0 then .initFromWire body 64 else .contFromWire body 64) s =
      .next { s with fb := frameOfBody body, valid := true, kind := k, response := some okResponse } := by
  cases k with
  | init => exact exec_initFromWire_of_length rfl body s
  | cont => exact exec_contFromWire_of_length rfl body s

/-! ### TX_MUX (R94) -/

theorem exec_txMux_of_frame {s : State} (hvalid : s.valid = true) : exec .txMux s = .next { s with
    response := some { okResponse with report_o := some s.fb, kind_o := some (kindBit s.kind) } } := by
  rw [exec, execTxMux, readFrame_of_frame _ hvalid (by simp), State.respond]

theorem exec_txMux_of_noFrame {s : State} (hvalid : s.valid = false) : exec .txMux s =
    .next { s with fstat := s.fstat ||| 0x08, response := some (faultResponse .noFrame) } := by
  rw [exec, execTxMux, readFrame_of_noFrame _ _ hvalid]
  rfl

/-! ### The statements -/

/-- Settles O23: the length alone decides, and the kind is the body's own. -/
theorem rxDemuxLoadsBody : Obligations.RxDemuxLoadsBody := by
  refine fun body blen s => ⟨fun hlength => ?loads, fun hother => ?raises⟩
  case loads =>
    rw [← bodyKind_eq, ← kindBit_bodyKind]
    refine ⟨_, _, exec_rxDemux_of_length hlength body s, ⟨rfl, rfl⟩, rfl, byteAt_frameOfBody_rid body, fun k hk => ?_⟩
    rw [Nat.add_comm, byteAt_frameOfBody body k hk]
  case raises => exact ⟨_, exec_rxDemux_of_other_length hother body s, rfl, rfl⟩

/-- Settles O24: the length alone decides. -/
theorem classifyAnswersKind : Obligations.ClassifyAnswersKind := by
  refine fun body blen s => ⟨fun hlength => ?answers, fun hother => ?raises⟩
  case answers => exact ⟨_, exec_classify_of_length hlength body s, ⟨rfl, rfl⟩, congrArg some (kindBit_bodyKind body)⟩
  case raises => exact ⟨_, exec_classify_of_other_length hother body s, rfl, rfl⟩

/-- Settles O26: both ways load the frame of the body as the body's kind. -/
theorem rxDemuxIsClassifyThenFromWire : Obligations.RxDemuxIsClassifyThenFromWire := fun body s =>
  ⟨_, _, _, exec_classify_of_length rfl body s, exec_fromWire_of_kind (bodyKind body) body _,
    exec_rxDemux_of_length rfl body s, ⟨rfl, rfl, rfl, rfl⟩, rfl, rfl⟩

/-- Settles O29: VALID alone decides. -/
theorem txMuxAnswers : Obligations.TxMuxAnswers := by
  refine fun s => ⟨fun hvalid => ?emits, fun hvalid => ?raises⟩
  case emits => exact ⟨_, exec_txMux_of_frame hvalid, ⟨rfl, rfl⟩, by cases s.kind <;> rfl, _, rfl, fun _ _ => rfl⟩
  case raises => exact ⟨_, exec_txMux_of_noFrame hvalid, rfl, rfl⟩

/-- Settles O52: a built init frame's type byte has the marker bit; a continuation frame's is its sequence byte. -/
theorem builtFramesClassify : Obligations.BuiltFramesClassify := by
  constructor
  case left =>
    intro s s' t cid cmd size pay plen hfits hbuilt
    obtain rfl := Host.Outcome.next.inj ((exec_initNew_of_fits hfits cid cmd size pay s).symm.trans hbuilt)
    refine ⟨_, exec_classify_bodyOf _ s', ?_⟩
    simp only [typeField_initFrame, kindOf_initTypeByte, kindBit]
  case right =>
    intro s s' t cid seq pay plen hfits hbuilt
    obtain rfl := Host.Outcome.next.inj ((exec_contNew_of_fits hfits cid seq pay s).symm.trans hbuilt)
    refine ⟨rfl, _, exec_classify_bodyOf _ s', ?_⟩
    simp only [typeField_contFrame, kindOf_eq]
    by_cases hseq : seq.toNat ≤ 127
    · rw [if_pos hseq, if_neg (by omega), kindBit]
    · rw [if_neg hseq, if_pos (by omega), kindBit]

/-- Settles O53: RX_DEMUX reads the kind off the byte that it writes to FB[5]. -/
theorem txMuxThenRxDemux : Obligations.TxMuxThenRxDemux := by
  constructor
  case left =>
    intro body s t h
    obtain rfl := Host.Outcome.next.inj ((exec_rxDemux_of_length rfl body s).symm.trans h)
    exact congrArg kindOf (typeField_frameOfBody body).symm
  case right =>
    intro s hvalid hrid
    exact ⟨_, _, _, exec_txMux_of_frame hvalid, rfl, exec_rxDemux_bodyOf hrid s, rfl, eq_comm⟩

end Sys2Proof.Machine
end

section
/-! PROOFS. The byte order of BCNT over all sizes (20_memory.md R32, 45_operation_set.md R97 (d)). -/

namespace Sys2Proof.Machine

/-- Settles O55: the value of `be16` is the byte order law, and the two slices are a size's high and low byte. -/
theorem bcntIsBigEndian : Obligations.BcntIsBigEndian := by
  constructor
  case left => exact be16_toNat
  case right =>
    intro v
    change be16 (highByte v) (lowByte v) = v
    exact be16_split v

end Sys2Proof.Machine
end

section
/-! PROOFS. Precise exceptions (60_exceptions.md R102 to R114): which operation raises which fault, that the fault's own row
raises the same, what a fault leaves, and that the next request does not notice it. -/

namespace Sys2Proof.Machine

/-! ### `raise` and the fault rows (R102, R113) -/

theorem faultResponse_noResults (f : FrameFault) : (faultResponse f).noResults := by
  simp [Response.noResults, faultResponse, okResponse]

/-- The row of a fault's code (log entry 10). -/
def faultRow : FrameFault → Instr
  | .payloadTooLarge plen => .faultPayloadTooLarge plen
  | .malformedFrame blen => .faultMalformedFrame blen
  | .noFrame => .faultNoFrame
  | .kindMismatch kind => .faultKindMismatch kind
  | .badOp op => .faultBadOp op
  | .badTag err => .faultBadTag err

theorem exec_faultRow (f : FrameFault) : exec (faultRow f) = raise f := by cases f <;> rfl

/-! ### Where each fault is raised (R103 to R108) -/

/-- The four operations that take a body. -/
def bodyOps (body : Bytes 64) (blen : BitVec 7) : List Instr :=
  [.initFromWire body blen, .contFromWire body blen, .classify body blen, .rxDemux body blen]

theorem exec_bodyOp_of_other_length {i : Instr} {body : Bytes 64} {blen : BitVec 7} (hi : i ∈ bodyOps body blen)
    (h : blen.toNat ≠ 64) (s : State) : exec i s = raise (.malformedFrame blen) s := by
  simp only [bodyOps, List.mem_cons, List.not_mem_nil, or_false] at hi
  rcases hi with rfl | rfl | rfl | rfl
  · exact exec_initFromWire_of_other_length h body s
  · exact exec_contFromWire_of_other_length h body s
  · exact exec_classify_of_other_length h body s
  · exact exec_rxDemux_of_other_length h body s

theorem exec_bodyOp_of_length {i : Instr} {body : Bytes 64} {blen : BitVec 7} (hi : i ∈ bodyOps body blen)
    (h : blen.toNat = 64) (s : State) : ∃ t r, exec i s = .next t ∧ t.response = some r ∧ r.isOk := by
  simp only [bodyOps, List.mem_cons, List.not_mem_nil, or_false] at hi
  rcases hi with rfl | rfl | rfl | rfl
  · exact ⟨_, _, exec_initFromWire_of_length h body s, rfl, rfl, rfl⟩
  · exact ⟨_, _, exec_contFromWire_of_length h body s, rfl, rfl, rfl⟩
  · exact ⟨_, _, exec_classify_of_length h body s, rfl, rfl, rfl⟩
  · exact ⟨_, _, exec_rxDemux_of_length h body s, rfl, rfl, rfl⟩

/-- VALID is tested before KIND (R112), so KIND does not matter here. -/
theorem exec_read_of_noFrame {i : Instr} {s : State} (hreads : i.readsAs ≠ none) (hvalid : s.valid = false) :
    exec i s = raise .noFrame s := by
  obtain ⟨want, hwant⟩ := Option.ne_none_iff_exists'.mp hreads
  obtain ⟨answer, hread⟩ := exec_of_readsAs hwant
  rw [hread, readFrame_of_noFrame want answer hvalid, raise]

theorem exec_read_of_mismatch {i : Instr} {k : Kind} {s : State} (hreads : i.readsAs = some (some k))
    (hvalid : s.valid = true) (hkind : s.kind ≠ k) : exec i s = raise (.kindMismatch s.kind) s := by
  obtain ⟨answer, hread⟩ := exec_of_readsAs hreads
  rw [hread, readFrame_of_mismatch answer hvalid hkind, raise]

/-- The `info` of BadOp is the reserved code itself. -/
theorem exec_decodeRequest_of_reservedOp {q : Request} (h : reservedOp q.op_i = true) :
    exec (decodeRequest q) = raise (.badOp q.op_i) := by
  simp only [reservedOp, reservedOps, List.contains_eq_mem, decide_eq_true_eq, List.mem_cons, List.not_mem_nil,
    or_false] at h
  rcases h with h | h | h | h | h | h | h | h | h | h | h | h <;> (rw [decodeRequest, h]; rfl)

/-! ### What a fault leaves, and what an answer that is ok leaves of the fault bits (R102, R109, R113) -/

/-- ALIAS is FSTAT bit 7, above the fault bits. -/
theorem fstatAlias_faultBits (fstat : BitVec 8) (cmd : BitVec 4) :
    (fstatAlias fstat cmd).extractLsb' 0 7 = fstat.extractLsb' 0 7 := by
  rw [fstatAlias_eq]
  split
  · rw [BitVec.extractLsb'_or]
    exact BitVec.or_zero
  · rfl

/-- The response tells the two ways an instruction can end apart: it raised a fault, or it is ok and set no fault bit. -/
theorem exec_response_cases {i : Instr} {s t : State} {r : Response} (h : exec i s = .next t) (hr : t.response = some r) :
    (∃ f, t = s.afterRaise f ∧ r = faultResponse f) ∨
      (r.isOk ∧ t.fstat.extractLsb' 0 7 = s.fstat.extractLsb' 0 7) := by
  obtain ⟨u, hu, hans⟩ := exec_answer i s
  obtain rfl := Host.Outcome.next.inj (h.symm.trans hu)
  rcases hans with ⟨f, rfl⟩ | ⟨r', hok, hleft⟩
  · exact .inl ⟨f, rfl, (Option.some.inj hr).symm⟩
  · right
    rcases hleft with rfl | ⟨c, rfl⟩ | ⟨k, v, -, rfl⟩ | ⟨c, k, v, -, rfl⟩ <;> obtain rfl := Option.some.inj hr
    · exact ⟨hok, rfl⟩
    · exact ⟨hok, fstatAlias_faultBits s.fstat c⟩
    · exact ⟨hok, rfl⟩
    · exact ⟨hok, fstatAlias_faultBits s.fstat c⟩

/-- A response with `ok_o = 0` is a fault's. -/
theorem exec_fault {i : Instr} {s t : State} {r : Response} (h : exec i s = .next t) (hr : t.response = some r)
    (hok : r.ok_o = 0) : ∃ f, t = s.afterRaise f ∧ r = faultResponse f := by
  refine (exec_response_cases h hr).resolve_right fun ⟨⟨hone, _⟩, _⟩ => ?_
  simp [hone] at hok

/-- An instruction faults only with a code whose FSTAT bit its row of 10_state.md R24 lets it set. The response does not
depend on FSTAT, so the bit is seen to be set from the same frame with FSTAT clear. -/
theorem fstatCanSet_of_fault {i : Instr} {s t : State} {r : Response} (h : exec i s = .next t) (hr : t.response = some r)
    (hcode : r.fault_o ≠ 0) : i.fstatCanSet.getLsbD r.fault_o.toNat = true := by
  obtain ⟨u, hu, -⟩ := exec_answer i { s with fstat := 0 }
  obtain ⟨hresponse, -⟩ := responseDependsOnFrameAlone i s { s with fstat := 0 } t u ⟨rfl, rfl, rfl⟩ h hu
  rcases exec_response_cases hu (hresponse.symm.trans hr) with ⟨f, rfl, rfl⟩ | ⟨⟨-, hzero⟩, -⟩
  · obtain ⟨-, hwithin⟩ := fstatIsSticky i _ _ hu
    have hbit := congrArg (·.getLsbD f.code.toNat) hwithin
    have hcode_lt : f.code.toNat < 8 := by omega
    simpa [fstatSet, hcode_lt] using hbit
  · exact absurd hzero hcode

/-- Of what a request can select, ERR_ENC alone has the FSTAT bit of BadTag in its row of 10_state.md R24. -/
theorem errEnc_of_fstatCanSet_bit6 {i : Instr} (hrequest : i.isRequest = true) (hbit : i.fstatCanSet.getLsbD 6 = true) :
    ∃ err, i = .errEnc err := by
  cases i with
  | errEnc err => exact ⟨err, rfl⟩
  | faultBadTag err => exact absurd hrequest (by simp [Instr.isRequest, encode, TableWord.format])
  | _ => exact absurd hbit (by simp [Instr.fstatCanSet])

theorem op_of_decodeRequest_errEnc {q : Request} {err : BitVec 4} (h : decodeRequest q = .errEnc err) :
    q.op_i = 0x02 ∧ q.err_i = err := by
  unfold decodeRequest at h
  split at h
  case h_3 hop => exact ⟨BitVec.eq_of_toNat_eq hop, Instr.errEnc.inj h⟩
  all_goals cases h

/-- ERR_ENC of a tag that names an error ends ok, so the tag of one that does not is 9 to 15. -/
theorem badTag_of_exec_errEnc {err : BitVec 4} {s t : State} {r : Response} (h : exec (.errEnc err) s = .next t)
    (hr : t.response = some r) (hcode : r.fault_o ≠ 0) : 9 ≤ err.toNat := by
  rcases errorTag_cases err with ⟨e, rfl⟩ | ⟨hge, -⟩
  · obtain rfl := Host.Outcome.next.inj ((exec_errEnc_errorTag e s).symm.trans h)
    obtain rfl := Option.some.inj hr
    exact absurd rfl hcode
  · exact hge

/-! ### The statements -/

/-- Settles O14: only ERR_ENC may set FSTAT bit 6, and it answers code 6 only where its tag names no error. -/
theorem badTagRaisedByErrEncAlone : Obligations.BadTagRaisedByErrEncAlone := by
  refine ⟨fun err s hge => ⟨_, exec_errEnc_of_badTag hge s, rfl, rfl⟩, ?cmdEnc, ?initNew, ?alone⟩
  case cmdEnc =>
    intro cmd s t hge h
    obtain rfl := Host.Outcome.next.inj ((exec_cmdEnc cmd s).symm.trans h)
    exact ⟨_, rfl, ⟨rfl, rfl⟩, congrArg some (cmdByte_of_unnamed hge)⟩
  case initNew =>
    intro cid cmd size pay plen s t hge hfits h
    obtain rfl := Host.Outcome.next.inj ((exec_initNew_of_fits hfits cid cmd size pay s).symm.trans h)
    refine ⟨_, rfl, ⟨rfl, rfl⟩, ?_⟩
    rw [byteAt_initFrame_type, cmdByte_of_unnamed hge]
    rfl
  case alone =>
    intro q s t r h hr hcode
    have hbit : (decodeRequest q).fstatCanSet.getLsbD 6 = true := by
      simpa [hcode] using fstatCanSet_of_fault h hr (by simp [hcode])
    obtain ⟨err, herrEnc⟩ := errEnc_of_fstatCanSet_bit6 (isRequest_decodeRequest q) hbit
    obtain ⟨hop, rfl⟩ := op_of_decodeRequest_errEnc herrEnc
    rw [herrEnc] at h
    exact ⟨hop, badTag_of_exec_errEnc h hr (by simp [hcode])⟩

/-- Settles O19: the length alone decides. -/
theorem payloadTooLargeRaised : Obligations.PayloadTooLargeRaised :=
  ⟨fun cid cmd size pay _ s hlong => ⟨_, exec_initNew_of_long hlong cid cmd size pay s, rfl, rfl⟩,
   fun cid seq pay _ s hlong => ⟨_, exec_contNew_of_long hlong cid seq pay s, rfl, rfl⟩,
   fun cid cmd size pay _ s hfits => ⟨_, _, exec_initNew_of_fits hfits cid cmd size pay s, rfl, rfl, rfl⟩,
   fun cid seq pay _ s hfits => ⟨_, _, exec_contNew_of_fits hfits cid seq pay s, rfl, rfl, rfl⟩⟩

/-- Settles O25: the length alone decides. -/
theorem malformedFrameRaised : Obligations.MalformedFrameRaised := fun _ _ s _ hi =>
  ⟨fun hother => ⟨_, exec_bodyOp_of_other_length hi hother s, rfl, rfl⟩, fun hlength => exec_bodyOp_of_length hi hlength s⟩

/-- Settles O30: each of the ten is a read of FB. -/
theorem noFrameRaised : Obligations.NoFrameRaised := by
  intro s hvalid i hi
  have hreads : i.readsAs ≠ none := by revert i; decide
  exact ⟨_, exec_read_of_noFrame hreads hvalid, rfl, rfl⟩

/-- Settles O31: each read requires its own kind. -/
theorem kindMismatchRaised : Obligations.KindMismatchRaised := by
  intro s hvalid
  constructor
  · intro hkind i hi
    have hreads : i.readsAs = some (some .init) := by revert i; decide
    exact ⟨_, exec_read_of_mismatch hreads hvalid (by simp [hkind]), rfl, rfl⟩
  · intro hkind i hi
    have hreads : i.readsAs = some (some .cont) := by revert i; decide
    exact ⟨_, exec_read_of_mismatch hreads hvalid (by simp [hkind]), rfl, rfl⟩

/-- Settles O40: the operation and the fault's row both raise the fault. -/
theorem operationFaultsAreFaultRows : Obligations.OperationFaultsAreFaultRows :=
  ⟨fun cid cmd size pay _ s hlong => exec_initNew_of_long hlong cid cmd size pay s,
   fun cid seq pay _ s hlong => exec_contNew_of_long hlong cid seq pay s,
   fun _ _ s hother _ hi => exec_bodyOp_of_other_length hi hother s,
   fun _ _ hreads hvalid => exec_read_of_noFrame hreads hvalid,
   fun _ _ _ hreads hvalid hkind => exec_read_of_mismatch hreads hvalid hkind,
   fun _ s hreserved => congrFun (exec_decodeRequest_of_reservedOp hreserved) s,
   fun _ s hge => exec_errEnc_of_badTag hge s⟩

/-- Settles O42: an answer is a fault's, with its code in 1 to 6, or it is ok. -/
theorem faultsArePrecise : Obligations.FaultsArePrecise := by
  refine fun i s t r h hr => ⟨fun hok => ?fault, fun hok => ?ok⟩
  case fault =>
    obtain ⟨f, rfl, rfl⟩ := exec_fault h hr hok
    exact ⟨⟨rfl, rfl, rfl⟩, rfl, f.code_range.1, f.code_range.2, faultResponse_noResults f⟩
  case ok =>
    rcases exec_response_cases h hr with ⟨f, -, rfl⟩ | ⟨⟨-, hcode⟩, hbits⟩
    · simp at hok
    · exact ⟨hcode, hbits⟩

/-- Settles O49: a fault keeps the frame, and from the same frame `j` has the same effect. -/
theorem faultLeavesNextRequestAlone : Obligations.FaultLeavesNextRequestAlone := by
  intro i j s t u v hi hfault hu hv
  obtain ⟨r, hr, hok⟩ := Option.map_eq_some_iff.mp hfault
  obtain ⟨f, rfl, -⟩ := exec_fault hi hr hok
  have hframe : s.SameFrame (s.afterRaise f) := ⟨rfl, rfl, rfl⟩
  obtain ⟨e, rfl, hsame, -, -⟩ := exec_effect hu
  obtain rfl := hsame _ v hframe hv
  refine ⟨rfl, e.on_sameFrame hframe, ?_⟩
  change fstatSet s.fstat f.code.toNat ||| e.bits = (s.fstat ||| e.bits) ||| fstatSet s.fstat f.code.toNat
  unfold fstatSet
  ac_rfl

/-- Settles O37: the six pairs are each fault's row and its code. -/
theorem faultRowsRaise : Obligations.FaultRowsRaise := by
  intro plen blen kind op err s p hp
  obtain ⟨f, -, rfl⟩ := List.mem_map.mp (show p ∈ [FrameFault.payloadTooLarge plen, .malformedFrame blen, .noFrame,
    .kindMismatch kind, .badOp op, .badTag err].map fun f => (faultRow f, f.code) from hp)
  exact ⟨_, congrFun (exec_faultRow f) s, ⟨rfl, rfl⟩, faultResponse_noResults f⟩

end Sys2Proof.Machine
end

section
/-! PROOFS. Reset and the hazards of misuse (70_reset_and_hazards.md R117, R120, R123): what `rst` leaves, a body loaded under
the other layout, and a whole report presented as a body. -/

namespace Sys2Proof.Machine

/-! ### The fields a body's bytes land in (R11, R30) -/

theorem commandField_frameOfBody (body : Bytes 64) : commandField (frameOfBody body) = cmdOfByte (byteAt body 4 &&& 0x7F) := by
  rw [commandField, typeField_frameOfBody, Config.cmdMask]

theorem bcntField_frameOfBody (body : Bytes 64) : bcntField (frameOfBody body) = be16 (byteAt body 5) (byteAt body 6) :=
  congrArg₂ be16 (byteAt_frameOfBody body 5 (by decide)) (byteAt_frameOfBody body 6 (by decide))

/-- The continuation data is body bytes 5 to 63, so it begins where BCNT would stand. -/
theorem byteAt_contDataField_frameOfBody (body : Bytes 64) {j : Nat} (h : j < 59) :
    byteAt (contDataField (frameOfBody body)) j = byteAt body (5 + j) := by
  rw [byteAt_contDataField _ h, show 6 + j = 5 + j + 1 by omega, byteAt_frameOfBody _ _ (by omega)]

/-! ### The report rows (R123) -/

theorem exec_frameInit (cid : Bytes 4) (command : BitVec 7) (size : BitVec 16) (data : Bytes 57) :
    exec (.frameInit cid command size data) = raise (.malformedFrame 65) := by
  funext s
  rw [exec, execFrameInit, presentReport_eq_raise]

theorem exec_frameCont (cid : Bytes 4) (seq : BitVec 7) (data : Bytes 59) :
    exec (.frameCont cid seq data) = raise (.malformedFrame 65) := by
  funext s
  rw [exec, execFrameCont, presentReport_eq_raise]

/-! ### The statements -/

/-- Settles O54: a load sets KIND as the caller asked and never tests the type byte, so each read passes `REQUIRE_FRAME` and
answers the field of the frame the body made. -/
theorem misloadedBodiesReadAsAsked : Obligations.MisloadedBodiesReadAsAsked := by
  refine fun body s => ⟨?asInit, ?asCont⟩
  case asInit =>
    exact ⟨_, _, _, _, exec_initFromWire_of_length rfl body s, rfl, ⟨rfl, rfl⟩,
      exec_initCmd_of_frame rfl rfl, congrArg (some ∘ Prod.fst) (commandField_frameOfBody body),
      exec_initSize_of_frame rfl rfl, congrArg some (bcntField_frameOfBody body)⟩
  case asCont =>
    exact ⟨_, _, _, _, _, exec_contFromWire_of_length rfl body s, rfl, ⟨rfl, rfl⟩,
      exec_contSeq_of_frame rfl rfl, congrArg some (typeField_frameOfBody body),
      exec_contPayload_of_frame rfl rfl, rfl, byteAt_contDataField_frameOfBody body (by decide),
      byteAt_contDataField_frameOfBody body (by decide)⟩

/-- Settles O3: the step answers the state after reset, whatever the abandoned request. -/
theorem resetPinRestoresResetValues : Obligations.ResetPinRestoresResetValues := by
  intro s abandoned rest hrst
  obtain ⟨hfb, hvalid, hkind, hfstat⟩ := resetValues
  exact ⟨_, step_of_rst hrst, hfb, hvalid, hkind, hfstat, State.afterReset_response rest, State.afterReset_pending rest⟩

/-- Settles O36: the length 65 is not 64, whatever the report holds. -/
theorem reportRowsRaiseMalformedFrame : Obligations.ReportRowsRaiseMalformedFrame :=
  ⟨fun cid command size data s => ⟨_, congrFun (exec_frameInit cid command size data) s, rfl, rfl⟩,
   fun cid seq data s => ⟨_, congrFun (exec_frameCont cid seq data) s, rfl, rfl⟩⟩

end Sys2Proof.Machine
end
